-- ==== Sys2Proof/Word.lean ====
section
/-! DEFINITION. The words of the ILW-246: bytes of the aisle line and of the image, article codes, and the plainest
arithmetic on whole numbers (00_scope.md, "Quantities" and "Arithmetic"). -/

namespace Sys2Proof

/-- A byte: one character of the aisle line, one byte of the configuration memory (R169). -/
abbrev Byte := BitVec 8

/-- A 24-bit article code (00_scope.md, "Article"). -/
abbrev Code := BitVec 24

/-- A conversion code of the converter: 24 bits, read as a signed whole number (R2). -/
abbrev Conversion := BitVec 24

/-- Brings a whole number into a range, both ends included (00_scope.md, "clamped"). -/
def clampInt (lo hi v : Int) : Int := if v < lo then lo else if hi < v then hi else v

/-- The same for counts. -/
def clampNat (lo hi v : Nat) : Nat := if v < lo then lo else if hi < v then hi else v

end Sys2Proof
end

