-- ==== Sys2Proof/Config.lean ====
section
/-! DEFINITION. What the spec fixes for every ILW-246: times in bit times of the aisle line, limits and ranges. The spec leaves
no value of this hardware open, so there is no free value here. -/

namespace Sys2Proof.Config

/-- One millisecond in bit times: one bit time is 10 µs (R107). -/
def millisecond : Nat := 100
/-- One second in bit times. -/
def second : Nat := 100000
/-- One minute in bit times. -/
def minute : Nat := 6000000

/-- Weight range of the front end, in grams (R4). -/
def weightMin : Int := -20000
/-- Upper end of the weight range, in grams (R4). -/
def weightMax : Int := 300000
/-- The window holds at most 8 weights (R5). -/
def windowSize : Nat := 8
/-- Warm-up on entry to RUNNING from LOADING, in conversions (R9). -/
def warmUpStart : Nat := 32
/-- Warm-up after FAULT and after BROWNOUT, in conversions (R9). -/
def warmUpShort : Nat := 8
/-- Out-of-range codes in a row that make a bridge fault, and in-range codes in a row that end it (R15, R16). -/
def faultRunLimit : Nat := 4
/-- Greatest count of one cell, in units (R27). -/
def countMax : Nat := 9999
/-- Greatest number of units of one step or one departure (R26). -/
def stepMax : Nat := 255
/-- Bound of the unexplained balance, in grams (R31). -/
def balanceMax : Int := 300000
/-- Greatest tray weight, in grams (R39). -/
def trayMax : Int := 50000
/-- A cell holds at most 4 strays (R53). -/
def strayMax : Nat := 4
/-- The departure log holds at most 16 entries (R43). -/
def logMax : Nat := 16
/-- A contribution map holds at most 12 entries (R64). -/
def mapMax : Nat := 12
/-- Greatest count of one station for one article (R62, R171). -/
def ownCountMax : Nat := 39996
/-- Serial gaps hold at 255 (R68). -/
def gapsMax : Nat := 255
/-- A line counter holds at 65,535 (R121). -/
def counterMax : Nat := 65535
/-- The send queue has four send slots (R131). -/
def sendSlots : Nat := 4
/-- The sixteenth failed attempt drops a frame (R117). -/
def attemptLimit : Nat := 16
/-- Quiet bit times that make the line idle (R108). -/
def idleQuiet : Nat := 20
/-- A contention slot lasts 20 bit times (R112). -/
def slotLength : Nat := 20
/-- A contention round has 96 slots (R112). -/
def roundSlots : Nat := 96
/-- Greatest body length of a frame (R110). -/
def bodyMax : Nat := 80
/-- The sync character (R170). -/
def syncChar : Byte := 0xA5

/-- An entry is stale, and a lead without an entry is lost, after 180 s (R65, R83). -/
def staleAfter : Nat := 180 * second
/-- An entry leaves the map after 600 s of silence (R85). -/
def removedAfter : Nat := 600 * second
/-- The start hold runs 10 s (R95). -/
def startHold : Nat := 10 * second
/-- The census window is 2 s (R164). -/
def censusWindow : Nat := 2 * second
/-- A line stays JOINING at most 60 s after the census window (R80). -/
def joiningLimit : Nat := 60 * second
/-- The claim timer runs the station's number × 250 ms (R82). -/
def claimStep : Nat := 250 * millisecond
/-- The TALLY phase is the station's number × 2 s (R75). -/
def tallyStep : Nat := 2 * second
/-- A press released before 1 s is short (Table 9-2). -/
def shortPress : Nat := second
/-- A press held 3 s is long (Table 9-2). -/
def longPress : Nat := 3 * second
/-- The key is taken as closed or open once its input has read so for 20 ms without a break (R152). -/
def keySettle : Nat := 20 * millisecond
/-- The lamp clock runs in periods of 1,000 ms (R148). -/
def lampPeriod : Nat := 1000 * millisecond

/-- The configuration memory has 512 bytes (10.2). -/
def memorySize : Nat := 512
/-- What a byte of the configuration memory reads as where nothing has been written: an erased memory reads 255 (R158). -/
def erased : Byte := 0xFF
/-- The format mark of an image (Table 11-5). -/
def formatMark : Nat := 0x2E

end Sys2Proof.Config
end

