-- ==== Sys2Proof/Syntax.lean ====
section
/-! DEFINITION. The commands the station takes: one constructor of Instr for each row of spec/opcode_table.json, with the
row's operands, and the contents of the frames of the aisle line as their bytes hold them (Tables 11-2 to 11-4). -/

namespace Sys2Proof

/-- Body of an ALERT (Table 11-2, kind 1). -/
structure AlertBody where
  code : Code
  state : Byte
  urgency : Byte
  aggregate : BitVec 24
  reorder : BitVec 16
deriving DecidableEq, Repr

/-- What stands after the three fixed bytes of a COMMAND: article codes, or one cell number (R125). -/
inductive Payload where
  | codes (list : List Code)
  | cell (number : Byte)
deriving DecidableEq, Repr

/-- Body of a COMMAND (Table 11-2, kind 2). -/
structure CommandBody where
  target : Byte
  code : Byte
  option : Byte
  payload : Payload
deriving DecidableEq, Repr

/-- The departure part of a COUNT (R122). -/
structure DeparturePart where
  units : Byte
  unitWeight : BitVec 16
  tolerance : BitVec 16
  serial : Byte
deriving DecidableEq, Repr

/-- Body of a COUNT (Table 11-2, kind 3): bit 0 of the flags is claim-only. -/
structure CountBody where
  code : Code
  count : BitVec 16
  serial : Byte
  flags : Byte
  part : Option DeparturePart
deriving DecidableEq, Repr

/-- Body of a STRAY (Table 11-2, kind 4). -/
structure StrayBody where
  event : Byte
  cell : Byte
  code : Code
  origin : Byte
  serial : Byte
deriving DecidableEq, Repr

/-- One entry of a TALLY (Table 11-2, kind 5): flag bits 0–1 alert state, 2–3 urgency, 4 lead flag. -/
structure TallyEntry where
  code : Code
  count : BitVec 16
  flags : Byte
deriving DecidableEq, Repr

/-- Body of a STATUS (Table 11-4). -/
structure StatusBody where
  station : Byte
  command : Byte
  result : Byte
  counters : Vector (BitVec 16) 8
  cells : Vector Byte 12
  incomplete : BitVec 16
  gaps : Vector Byte 12
  clamped : Byte
deriving DecidableEq, Repr

/-- Body of a FAULT (Table 11-2, kind 8): cell 255 for none. -/
structure FaultBody where
  code : Byte
  cell : Byte
deriving DecidableEq, Repr

/-- The body of a frame, one constructor for each of the eight kinds (Table 7-1). -/
inductive Body where
  | alert (b : AlertBody)
  | command (b : CommandBody)
  | count (b : CountBody)
  | stray (b : StrayBody)
  | tally (entries : List TallyEntry)
  | census (codes : List Code)
  | status (b : StatusBody)
  | fault (b : FaultBody)
deriving DecidableEq, Repr

/-- A frame: its source station and its body; kind and length follow from the body, the check from all of it. -/
structure Frame where
  source : Byte
  body : Body
deriving DecidableEq, Repr

/-- An addressing that the configuration memory does not answer: the byte at which the read stands, and whether the memory has
answered an addressing since the last one that it did not (R157). -/
structure Silence where
  position : Nat
  answered : Bool
deriving DecidableEq, Repr

/-- The commands of the block, in the order of spec/opcode_table.json. A command is an event at one of the station's
connections (a conversion, a frame completed on the line, a key change, a supply sample) or a moment that one of its clocks
reaches. -/
inductive Instr where
  /-- The supply rises (R168). -/
  | powerOn
  /-- The memory does not answer an addressing (R157). -/
  | eepromNoAnswer (silence : Silence)
  /-- The image has been read: the bytes the memory holds from address 0 on (R158). -/
  | imageLoadEnd (image : List Byte)
  /-- A whole minute of the station clock in UNCONFIGURED (R162). -/
  | unconfiguredFaultMinute
  /-- The supply is sampled: below the trip level, or not (R165). -/
  | supplySample (low : Bool)
  /-- The conversion of the next input of the rotation completes with this code (R1). -/
  | conversion (code : Conversion)
  /-- The conversion that ends a warm-up (R9). -/
  | warmUpEnd (code : Conversion)
  /-- The conversion at which the motion limit is reached (R11). -/
  | enterUnsteady (code : Conversion)
  /-- The conversion with the fourth out-of-range code in a row (R15). -/
  | enterFault (code : Conversion)
  /-- The conversion with the fourth in-range code in a row of a cell in FAULT (R16). -/
  | leaveFault (code : Conversion)
  /-- The oldest departure entry reaches its time of entry plus the stray window (R49). -/
  | departureExpiry
  /-- The quiet count reaches 20 bit times (R108). -/
  | lineIdle
  /-- The third header character has been read and the header's body length is this (R110). -/
  | overLengthDiscard (length : Byte)
  /-- This slot of the round begins (R113). -/
  | contentionSlot (slot : Nat)
  /-- Slot 95 ends with the line still idle (R112). -/
  | roundRepeat
  /-- Read-back differs from the bit being sent (R115). -/
  | collision
  /-- The last stop bit of the frame being sent reads back true (R118). -/
  | attemptSucceeded
  /-- A frame is complete; its characters after the two sync characters are these (R127). -/
  | badFrame (characters : List Byte)
  /-- A complete COUNT (R70). -/
  | countTaken (source : Byte) (body : CountBody)
  /-- A complete ALERT (R89). -/
  | alertTaken (source : Byte) (body : AlertBody)
  /-- A complete STRAY (R56). -/
  | strayTaken (source : Byte) (body : StrayBody)
  /-- A complete TALLY (R76). -/
  | tallyTaken (source : Byte) (entries : List TallyEntry)
  /-- A complete CENSUS (R79). -/
  | censusTaken (source : Byte) (codes : List Code)
  /-- A complete STATUS (R129). -/
  | statusTaken (source : Byte) (body : StatusBody)
  /-- A complete FAULT (R129). -/
  | faultTaken (source : Byte) (body : FaultBody)
  /-- A complete COMMAND with code ACK (R101). -/
  | ack (source target option : Byte) (payload : Payload)
  /-- A complete COMMAND with code RESTOCK-BEGIN (R102). -/
  | restockBegin (source target option : Byte) (payload : Payload)
  /-- A complete COMMAND with code RESTOCK-END (R103). -/
  | restockEnd (source target option : Byte) (payload : Payload)
  /-- A complete COMMAND with code QUERY (R142). -/
  | query (source target option : Byte) (payload : Payload)
  /-- A complete COMMAND with code RECOUNT (R38). -/
  | recount (source target option : Byte) (payload : Payload)
  /-- A complete COMMAND with code ZERO (R39). -/
  | zero (source target option : Byte) (payload : Payload)
  /-- A complete COMMAND with code RESTART (R144). -/
  | restart (source target option : Byte) (payload : Payload)
  /-- The 2 s census window ends (R164). -/
  | censusWindowEnd
  /-- 60 s after the end of the census window (R80). -/
  | joiningLimit
  /-- The station's phase of the minute (R75). -/
  | tallyPhase
  /-- A map entry of this line reaches 180 s of silence (R82). -/
  | entryStale (line : Fin 12) (peer : Nat)
  /-- A map entry of this line reaches 600 s of silence (R85). -/
  | entryRemoved (line : Fin 12) (peer : Nat)
  /-- The lead timer of this line reaches 180 s (R83). -/
  | leadTimerExpiry (line : Fin 12)
  /-- The claim timer of this line expires (R84). -/
  | claimTimerExpiry (line : Fin 12)
  /-- The start hold of this line ends (R95). -/
  | startHoldExpiry (line : Fin 12)
  /-- The reminder timer of this line reaches the reminder interval (R98). -/
  | reminderTimerExpiry (line : Fin 12)
  /-- The restock timer of this line reaches the restock limit (R104). -/
  | restockTimerExpiry (line : Fin 12)
  /-- The staff key becomes closed: its input has read pressed for 20 ms without a break (R152). -/
  | keyPressBegin
  /-- The staff key becomes open: its input has read released for 20 ms without a break (R152). -/
  | keyRelease
  /-- The key has been held 3 s (R154). -/
  | longPress
  /-- A falling edge on the line, after which the next `low` bit times read 0 at their middles: 0 for a glitch, whose start bit reads
  1 at its middle and forms no character (R107, R108). -/
  | carrier (low : Nat)
  /-- A character whose stop bit reads 0 (R110). -/
  | framingError
  /-- One of the first two characters of a frame reads as this (R110). -/
  | syncMismatch (character : Byte)
  /-- A complete COMMAND with this command code, none of the seven (R137). -/
  | unknownCommandCode (source target code option : Byte) (payload : Payload)
  /-- The supply falls below the level at which the module operates (R156). -/
  | supplyFailure
deriving DecidableEq, Repr

end Sys2Proof
end

