-- ==== Sys2Proof/Machine/State.lean ====
section
/-! DEFINITION. The state of the station as plain data, and the state right after reset. Every moment is a reading of the
station clock in bit times; a running timer is held as the moment at which it was last started (log entry 13). -/

namespace Sys2Proof.Machine

/-- The station's memory of an addressed store: address and byte, addresses rising, erased bytes not listed. -/
abbrev Memory := List Host.Cell

/-- The station states of Table 10-1, and `off`: no supply (Table 10-3; log entry 10). -/
inductive StationState where
  | off | loading | unconfigured | running | brownout
deriving DecidableEq, Repr

/-- The cell states of Table 1-3. -/
inductive CellState where
  | unused | warming | motion | rest | unsteady | fault
deriving DecidableEq, Repr

/-- One weight of a window with its saturated mark (R5). -/
structure Sample where
  weight : Int
  saturated : Bool
deriving DecidableEq, Repr

/-- A stray record (R52). -/
structure StrayRecord where
  code : Code
  unitWeight : Nat
  tolerance : Nat
  origin : Nat
  serial : Byte
deriving DecidableEq, Repr

/-- A cell record with the front end's quantities of the cell (Tables 1-1 and 2-1). The rest mean is the mean of the window
(R6). `line` is the article line of the cell's article. -/
structure CellRecord where
  state : CellState
  line : Option (Fin 12)
  zeroOffset : BitVec 24
  gain : Nat
  window : List Sample
  warmUp : Nat
  faultRun : Nat
  motionCount : Nat
  count : Nat
  baseline : Int
  tray : Int
  balance : Int
  strays : List StrayRecord
  saturated : Bool
  countClamped : Bool
  recountInexact : Bool
  firstRest : Bool
deriving DecidableEq, Repr

/-- A departure entry (Table 3-1). -/
structure Departure where
  origin : Nat
  serial : Byte
  code : Code
  unitWeight : Nat
  tolerance : Nat
  units : Nat
  enteredAt : Nat
deriving DecidableEq, Repr

/-- The line states of Table 4-3. -/
inductive LineState where
  | vacant | joining | solo | lead | follow
deriving DecidableEq, Repr

/-- A contribution map entry (Table 4-2); its silence is the time since `heardAt`. -/
structure MapEntry where
  station : Nat
  count : Nat
  lastSerial : Option Byte
  heardAt : Nat
  stale : Bool
deriving DecidableEq, Repr

/-- The alert states of Table 5-2. -/
inductive AlertState where
  | clear | raised | held | restocking
deriving DecidableEq, Repr

/-- An alert record (Table 5-1). -/
structure AlertRecord where
  state : AlertState
  urgency : Nat
  reminderSince : Option Nat
  reminderDue : Bool
  restockSince : Option Nat
deriving DecidableEq, Repr

/-- The configuration part of an article line (Table 4-1, "image"). -/
structure LineConfig where
  code : Code
  unitWeight : Nat
  tolerance : Nat
  reorder : Nat
  margin : Nat
  reminderMinutes : Nat
  restockMinutes : Nat
  cells : List (Fin 12)
deriving DecidableEq, Repr

/-- An article line (Table 4-1). -/
structure ArticleLine where
  config : LineConfig
  state : LineState
  ownCount : Nat
  map : List MapEntry
  lead : Nat
  leadSince : Option Nat
  serial : Byte
  incomplete : Bool
  serialGaps : Nat
  claimSince : Option Nat
  holdSince : Option Nat
  alert : AlertRecord
deriving DecidableEq, Repr

/-- The command codes of Table 11-3. -/
inductive CommandCode where
  | ack | restockBegin | restockEnd | query | recount | zero | restart
deriving DecidableEq, Repr

/-- The result codes of Table 8-2. -/
inductive ResultCode where
  | done | notAtRest | noSuchCell | notReady
deriving DecidableEq, Repr

/-- The fault codes of Table 11-3. -/
inductive FaultCode where
  | eepromSilent | imageCrc | imageStation | imageStructure | cellFault
deriving DecidableEq, Repr

/-- What a frame in the send queue holds before its send-time fields are formed (R126). An ALERT is RAISED or CLEAR. -/
inductive Content where
  | alert (code : Code) (raised : Bool) (urgency : Nat) (reorder : Nat)
  | command (command : CommandCode) (codes : List Code)
  | count (code : Code) (claimOnly : Bool) (part : Option DeparturePart)
  | stray (placed : Bool) (cell : Fin 12) (stray : StrayRecord)
  | tally
  | census (codes : List Code)
  | status (body : StatusBody)
  | fault (fault : FaultCode) (cell : Option (Fin 12))
deriving DecidableEq, Repr

/-- A frame in the queue is WAITING, or SENDING with the frame formed for this attempt (R114, R131). -/
inductive Phase where
  | waiting
  | sending (frame : Frame)
deriving DecidableEq, Repr

/-- A frame in the send queue: its age is the order number of the moment at which it joined (R131; log entry 14); a COUNT
holds its serial from its first attempt on (R67). -/
structure SendFrame where
  content : Content
  phase : Phase
  age : Nat
  attempts : Nat
  serial : Option Byte
deriving DecidableEq, Repr

/-- The frame assembler of the receiver: waiting for the next idle, ready for a frame to begin, or with a frame in assembly
(R109, R110). -/
inductive Assembly where
  | waitIdle | ready | assembling
deriving DecidableEq, Repr

/-- A contention round: the next slot to begin and the bit times since the round began (R112). -/
structure Round where
  next : Nat
  elapsed : Nat
deriving DecidableEq, Repr

/-- Line access: idle or busy, the quiet count, the last sender, the assembler and the round in progress (chapter 6). -/
structure LineAccess where
  idle : Bool
  quiet : Nat
  lastSender : Nat
  assembly : Assembly
  round : Option Round
deriving DecidableEq, Repr

/-- The eight line counters (R121, R130), in the order of R146. -/
structure Counters where
  framesTaken : Nat
  badFrames : Nat
  overLength : Nat
  filtered : Nat
  unknownArticle : Nat
  collisions : Nat
  sendFailures : Nat
  sendDrops : Nat
deriving DecidableEq, Repr

/-- The census of a start: none, its frame in the send queue, the 2 s window running, or the window ended (R163, R164). -/
inductive Census where
  | none
  | queued
  | window (since : Nat)
  | ended (moment : Nat)
deriving DecidableEq, Repr

/-- The image loader: addressings in a row without an answer, the byte at which the read stands, and whether low supply has
abandoned the load (R157). -/
structure Loader where
  noAnswers : Nat
  position : Nat
  abandoned : Bool
deriving DecidableEq, Repr

/-- A press under way: when it began, and whether it has been classified long (R152). -/
structure Press where
  since : Nat
  classified : Bool
deriving DecidableEq, Repr

/-- The staff key: whether the unit waits for it to be open, the moment from which its present reading can have begun (the last
entry to RUNNING or the last change of the key), and the press under way. Past the wait, the key is closed while a press is under
way, and open else (R152; log entry 16). -/
structure Key where
  awaitOpen : Bool
  readFrom : Nat
  press : Option Press
deriving DecidableEq, Repr

/-- The run counts of the supply monitor (R165). -/
structure Supply where
  lowRun : Nat
  goodRun : Nat
deriving DecidableEq, Repr

/-- No command ends in a fault: the station has no event to which the spec gives no effect. The type has no constructor. -/
inductive Fault
deriving DecidableEq, Repr

/-- Why a command is turned away. -/
inductive Refusal where
  /-- Raised by `exec`'s arm of a row that has no meaning yet; safe: the model stops. No arm raises it. -/
  | notModelled (mnemonic : String)
deriving DecidableEq, Repr

/-- The station. Each group cites the chapter that owns it. -/
structure State where
  /-- Station state (R156). -/
  station : StationState
  /-- Station number, 0 where there is no valid one (R161, R162). -/
  number : Nat
  /-- Neighbour set (R45). -/
  neighbours : List Nat
  /-- Event threshold e, in grams (R13). -/
  eventThreshold : Nat
  /-- Settle band b, in grams (R7). -/
  settleBand : Nat
  /-- Motion limit, in seconds (R11). -/
  motionLimit : Nat
  /-- Stray window, in minutes (R49). -/
  strayWindow : Nat
  /-- The image-clamped flag (R160). -/
  imageClamped : Bool
  /-- The hash table (R128). -/
  hashTable : BitVec 64
  /-- The fault code an unconfigured station reports (R162). -/
  loadFault : Option FaultCode
  /-- The image loader (R157). -/
  loader : Loader
  /-- The configuration memory as the last load read it (10.2; log entry 8). -/
  eeprom : Memory
  /-- The station clock, in bit times (R156). -/
  clock : Nat
  /-- The next moment of the TALLY phase (R75). -/
  tallyAt : Nat
  /-- The next whole minute of an unconfigured station (R162). -/
  faultAt : Nat
  /-- The input that the rotation converts next (R1). -/
  rotation : Fin 12
  /-- The twelve cell records (chapters 1 and 2). -/
  cells : Vector CellRecord 12
  /-- The serial of the last own departure (R28). -/
  departureSerial : Byte
  /-- The departure log, oldest first (R43). -/
  log : List Departure
  /-- The twelve article lines (chapters 4 and 5). -/
  lines : Vector ArticleLine 12
  /-- The census of this start (R164). -/
  census : Census
  /-- The level of the aisle line: the bit times for which it still stays at 0; at 0 of them it rests at 1 (R107, R108; log
  entry 5). -/
  lineLow : Nat
  /-- Line access (chapter 6). -/
  access : LineAccess
  /-- The eight line counters (R121, R130). -/
  counters : Counters
  /-- The send queue, oldest first (R131). -/
  queue : List SendFrame
  /-- The age that the next frame to join the queue takes (log entry 14). -/
  nextAge : Nat
  /-- Last command (R147). -/
  lastCommand : Option CommandCode
  /-- Last result (R147). -/
  lastResult : Option ResultCode
  /-- The restart pending mark: the age of the STATUS it names (R144). -/
  restartPending : Option Nat
  /-- The staff key (R152). -/
  key : Key
  /-- The supply monitor (R165). -/
  supply : Supply
  /-- The commands that are waiting, first in, first out. -/
  pending : List Instr
deriving DecidableEq, Repr

/-- A cell throughout LOADING (R20). -/
def CellRecord.blank : CellRecord where
  state := .unused
  line := none
  zeroOffset := 0
  gain := 0
  window := []
  warmUp := 0
  faultRun := 0
  motionCount := 0
  count := 0
  baseline := 0
  tray := 0
  balance := 0
  strays := []
  saturated := false
  countClamped := false
  recountInexact := false
  firstRest := false

/-- An alert record at a start (R88). -/
def AlertRecord.blank : AlertRecord where
  state := .clear
  urgency := 0
  reminderSince := none
  reminderDue := false
  restockSince := none

/-- The configuration part of a VACANT line: it has no article code and no cells (R61). -/
def LineConfig.blank : LineConfig where
  code := 0
  unitWeight := 0
  tolerance := 0
  reorder := 0
  margin := 0
  reminderMinutes := 0
  restockMinutes := 0
  cells := []

/-- A line throughout LOADING (R87). -/
def ArticleLine.blank : ArticleLine where
  config := .blank
  state := .vacant
  ownCount := 0
  map := []
  lead := 0
  leadSince := none
  serial := 0
  incomplete := false
  serialGaps := 0
  claimSince := none
  holdSince := none
  alert := .blank

/-- Line access with the receiver off, or just turned on: the line is taken as busy (R108, R121). -/
def LineAccess.blank : LineAccess where
  idle := false
  quiet := 0
  lastSender := 0
  assembly := .waitIdle
  round := none

/-- All counters 0 (R121). -/
def Counters.zero : Counters := ⟨0, 0, 0, 0, 0, 0, 0, 0⟩

/-- The state right after reset: a power-on, with the station in LOADING (R156, R168). The station number, the parameters of
the image and the moments of periodic requests are not given a value by the spec before an image is built: 0 (log entry 11). DESIGN
CHOICE: the station clock, which R156 has stopped in LOADING, reads 0 there (log entry 11). -/
def State.reset : State where
  station := .loading
  number := 0
  neighbours := []
  eventThreshold := 0
  settleBand := 0
  motionLimit := 0
  strayWindow := 0
  imageClamped := false
  hashTable := 0
  loadFault := none
  loader := ⟨0, 0, false⟩
  eeprom := []
  clock := 0
  tallyAt := 0
  faultAt := 0
  rotation := 0
  cells := Vector.replicate 12 .blank
  departureSerial := 0
  log := []
  lines := Vector.replicate 12 .blank
  census := .none
  lineLow := 0
  access := .blank
  counters := .zero
  queue := []
  nextAge := 0
  lastCommand := none
  lastResult := none
  restartPending := none
  key := ⟨false, 0, none⟩
  supply := ⟨0, 0⟩
  pending := []

end Sys2Proof.Machine
end

