-- ==== Sys2Proof/Machine/Operands.lean ====
section
/-! DEFINITION. How the operands of a command are read and computed with: rounding, calibration, the window, unit numbers, the
CRC, byte order, and the configuration memory. -/

namespace Sys2Proof.Machine

/-- Quotient rounded to the nearest whole number, a value exactly halfway away from zero (00_scope.md, "rounded"). -/
def roundDiv (n d : Int) : Int :=
  if 0 ≤ n then (2 * n + d) / (2 * d) else -((2 * -n + d) / (2 * d))

/-- The numbers 0 to 11 of the cells and of the article lines, in rising order. -/
def allTwelve : List (Fin 12) := [0, 1, 2, 3, 4, 5, 6, 7, 8, 9, 10, 11]

/-- Magnitude. -/
def magnitude (v : Int) : Int := if v < 0 then -v else v

/-- The conversion codes that do not measure the load: the two extremes (R2). -/
def inRange (code : Conversion) : Bool := code.toInt != -8388608 && code.toInt != 8388607

/-- The weight of an in-range code before the clamp (R3). -/
def calibrate (code : Conversion) (zeroOffset : BitVec 24) (gain : Nat) : Int :=
  roundDiv ((code.toInt - zeroOffset.toInt) * gain) 65536

/-- What one conversion appends to the window: a calibrated weight, marked saturated where the clamp changes it (R3, R4), or
the nearer limit of the weight range, saturated, for an out-of-range code (R2). -/
def sampleOf (code : Conversion) (zeroOffset : BitVec 24) (gain : Nat) : Sample :=
  if inRange code then
    let w := calibrate code zeroOffset gain
    let c := clampInt Config.weightMin Config.weightMax w
    ⟨c, c != w⟩
  else if code.toInt < 0 then ⟨Config.weightMin, true⟩
  else ⟨Config.weightMax, true⟩

/-- Appends a weight at the young end; of more than 8 weights the oldest leaves (R5). -/
def appendSample (window : List Sample) (x : Sample) : List Sample :=
  let w := window ++ [x]
  w.drop (w.length - Config.windowSize)

/-- Sum of the weights of a window, saturated ones at their bound (R6). -/
def windowSum (window : List Sample) : Int := (window.map Sample.weight).sum

/-- The mean of a window (R6). -/
def windowMean (window : List Sample) : Int := roundDiv (windowSum window) window.length

/-- The settled test of a window with settle band b (R7). -/
def settled (band : Nat) (window : List Sample) : Bool :=
  window.length == Config.windowSize
    && window.all (fun x => !x.saturated)
    && window.all (fun x =>
      decide (windowMean window - band ≤ x.weight) && decide (x.weight ≤ windowMean window + band))

/-- The allowance of the own count test for |n| units (R26). -/
def allowance (tolerance : Nat) (n : Int) : Int :=
  (tolerance : Int) + (tolerance : Int) * (magnitude n - 1) / 4

/-- The own count test: the unit number n of a step, where it passes (R26). -/
def unitNumber (step : Int) (unitWeight tolerance : Nat) : Option Int :=
  let n := roundDiv step unitWeight
  if n = 0 ∨ Config.stepMax < magnitude n then none
  else if magnitude (step - n * unitWeight) ≤ allowance tolerance n then some n
  else none

/-- The unit number and the residual of a recount of a net weight (R36). -/
def recountNumber (net : Int) (unitWeight : Nat) : Int × Int :=
  let k := roundDiv net unitWeight
  (k, net - k * unitWeight)

/-- One bit of the CRC-16: the register with one entering bit (R169). -/
def crcBit (register : BitVec 16) (bit : Bool) : BitVec 16 :=
  if register.msb != bit then (register <<< 1) ^^^ 0x1021#16 else register <<< 1

/-- A byte enters the register most significant bit first (R169). -/
def crcByte (register : BitVec 16) (b : Byte) : BitVec 16 :=
  [7, 6, 5, 4, 3, 2, 1, 0].foldl (fun r i => crcBit r (b.getLsbD i)) register

/-- The CRC-16 of a row of bytes: the register starts at FFFF hex and is taken without inversion (R169). -/
def crc16 (bytes : List Byte) : BitVec 16 := bytes.foldl crcByte 0xFFFF#16

/-- The two bytes of a 16-bit field, most significant first (R169). -/
def bytes16 (v : BitVec 16) : List Byte := [v.extractLsb' 8 8, v.extractLsb' 0 8]

/-- The three bytes of a 24-bit field, most significant first (R169). -/
def bytes24 (v : BitVec 24) : List Byte := [v.extractLsb' 16 8, v.extractLsb' 8 8, v.extractLsb' 0 8]

/-- A 16-bit field from its bytes (R169). -/
def word16 (hi lo : Byte) : BitVec 16 := hi ++ lo

/-- A 24-bit field from its bytes (R169). -/
def word24 (hi mid lo : Byte) : BitVec 24 := (hi ++ mid : BitVec 16) ++ lo

/-- The hash index of an article code: the top 6 bits of the CRC of its three bytes (R128, R169). -/
def hashIndex (code : Code) : Nat := (crc16 (bytes24 code)).toNat / 1024

/-- The source station as the blocks treat it: above 31 it is 0 (R171). -/
def sourceStation (source : Byte) : Nat := if source.toNat ≤ 31 then source.toNat else 0

/-- A peer: a source of 1 to 30 other than this station's number (R70). -/
def isPeer (number source : Nat) : Bool := decide (1 ≤ source) && decide (source ≤ 30) && source != number

/-- A count field above 39,996 is taken as 39,996 (R171). -/
def countField (v : BitVec 16) : Nat := min v.toNat Config.ownCountMax

/-- The alert state of two bits (Table 11-3). -/
def alertStateOf (v : Nat) : Option AlertState :=
  match v with
  | 0 => some .clear
  | 1 => some .raised
  | 2 => some .held
  | 3 => some .restocking
  | _ => none

/-- The value of an alert state (Table 11-3). -/
def AlertState.value : AlertState → Nat
  | .clear => 0
  | .raised => 1
  | .held => 2
  | .restocking => 3

/-- An alert state with an urgency it may carry: 0 for CLEAR and RESTOCKING, 1 to 3 for RAISED and HELD (R89, R105). -/
def alertPaired (state : AlertState) (urgency : Nat) : Bool :=
  match state with
  | .clear | .restocking => urgency == 0
  | .raised | .held => decide (1 ≤ urgency) && decide (urgency ≤ 3)

/-- Alert state of a TALLY entry (Table 11-3). -/
def tallyAlertState (e : TallyEntry) : AlertState :=
  match (e.flags.extractLsb' 0 2).toNat with
  | 0 => .clear
  | 1 => .raised
  | 2 => .held
  | _ => .restocking

/-- Urgency of a TALLY entry (Table 11-3). -/
def tallyUrgency (e : TallyEntry) : Nat := (e.flags.extractLsb' 2 2).toNat

/-- Lead flag of a TALLY entry (Table 11-3). -/
def tallyLeadFlag (e : TallyEntry) : Bool := e.flags.getLsbD 4

/-- Values of the command codes (Table 11-3). -/
def CommandCode.value : CommandCode → Byte
  | .ack => 1
  | .restockBegin => 2
  | .restockEnd => 3
  | .query => 16
  | .recount => 17
  | .zero => 18
  | .restart => 19

/-- The command that a code byte names; none for a code that names none of the seven (R137). -/
def commandOf (code : Byte) : Option CommandCode :=
  if code = 1 then some .ack
  else if code = 2 then some .restockBegin
  else if code = 3 then some .restockEnd
  else if code = 16 then some .query
  else if code = 17 then some .recount
  else if code = 18 then some .zero
  else if code = 19 then some .restart
  else none

/-- Values of the result codes (Table 11-3). -/
def ResultCode.value : ResultCode → Byte
  | .done => 1
  | .notAtRest => 2
  | .noSuchCell => 3
  | .notReady => 4

/-- Values of the fault codes (Table 11-3). -/
def FaultCode.value : FaultCode → Byte
  | .eepromSilent => 1
  | .imageCrc => 2
  | .imageStation => 3
  | .imageStructure => 4
  | .cellFault => 5

/-- Values of the station states (Table 11-3); no STATUS is formed without supply. -/
def StationState.value : StationState → Byte
  | .loading | .off => 0
  | .unconfigured => 1
  | .running => 2
  | .brownout => 3

/-- Values of the cell states (Table 11-3). -/
def CellState.value : CellState → Byte
  | .unused => 0
  | .warming => 1
  | .motion => 2
  | .rest => 3
  | .unsteady => 4
  | .fault => 5

/-- The article codes of a COMMAND: empty where its body holds a cell number (R137). -/
def payloadCodes : Payload → List Code
  | .codes l => l
  | .cell _ => []

/-- The cell number of a COMMAND, where its body holds one (R137, R143). -/
def payloadCell : Payload → Option Nat
  | .codes _ => none
  | .cell c => some c.toNat

/-- A byte of the configuration memory: a byte that is not listed reads as erased. -/
def Memory.read : Memory → Nat → Byte
  | [], _ => Config.erased
  | (k, b) :: rest, a => if k = a then b else Memory.read rest a

/-- The bytes of a row placed from an address on, erased bytes left out. -/
def Memory.placed : Nat → List Byte → Memory
  | _, [] => []
  | a, b :: rest => if b = Config.erased then Memory.placed (a + 1) rest else (a, b) :: Memory.placed (a + 1) rest

/-- The configuration memory that holds these bytes from address 0 on (10.2). -/
def Memory.ofBytes (bytes : List Byte) : Memory := Memory.placed 0 (bytes.take Config.memorySize)

/-- All listed addresses are at least this, rising, and no listed byte is erased. -/
def Memory.rising : Nat → Memory → Bool
  | _, [] => true
  | a, (k, b) :: rest => decide (a ≤ k) && b != Config.erased && Memory.rising (k + 1) rest

/-- The canonical form of the configuration memory: addresses strictly rising and below 512, no listed byte erased. -/
def Memory.wf (m : Memory) : Bool := Memory.rising 0 m && m.all (fun c => decide (c.1 < Config.memorySize))

/-- The whole number of one byte (R172). -/
def Memory.u8 (m : Memory) (a : Nat) : Nat := (Memory.read m a).toNat

/-- The whole number of two bytes, most significant first (R169, R172). -/
def Memory.u16 (m : Memory) (a : Nat) : Nat := (word16 (Memory.read m a) (Memory.read m (a + 1))).toNat

/-- A three-byte field, most significant byte first (R169, R172). -/
def Memory.field24 (m : Memory) (a : Nat) : BitVec 24 :=
  word24 (Memory.read m a) (Memory.read m (a + 1)) (Memory.read m (a + 2))

/-- The bytes of a range of addresses, in order. -/
def Memory.bytes (m : Memory) (start count : Nat) : List Byte :=
  (List.range count).map (fun k => Memory.read m (start + k))

end Sys2Proof.Machine
end

