-- ==== Sys2Proof/Machine/Layout.lean ====
section
/-! DEFINITION. The byte layouts of the frames: their bodies, headers and checks, the bits of their characters, and the checks of
a complete frame (R107, R127, R169, R170). -/

namespace Sys2Proof.Machine

/-- The kind value of a body (Table 11-2). -/
def bodyKind : Body → Byte
  | .alert _ => 1
  | .command _ => 2
  | .count _ => 3
  | .stray _ => 4
  | .tally _ => 5
  | .census _ => 6
  | .status _ => 7
  | .fault _ => 8

/-- The bytes of a list of article codes. -/
def codeBytes (codes : List Code) : List Byte := codes.flatMap bytes24

/-- The bytes of a departure part: bytes 7 to 12 of a COUNT body. -/
def partBytes (p : DeparturePart) : List Byte :=
  [p.units] ++ bytes16 p.unitWeight ++ bytes16 p.tolerance ++ [p.serial]

/-- The six bytes of a TALLY entry. -/
def entryBytes (e : TallyEntry) : List Byte := bytes24 e.code ++ bytes16 e.count ++ [e.flags]

/-- The bytes of a body (Tables 11-2 and 11-4). -/
def bodyBytes : Body → List Byte
  | .alert b => bytes24 b.code ++ [b.state, b.urgency] ++ bytes24 b.aggregate ++ bytes16 b.reorder
  | .command b =>
    [b.target, b.code, b.option] ++
      (match b.payload with
        | .codes l => codeBytes l
        | .cell c => [c])
  | .count b =>
    bytes24 b.code ++ bytes16 b.count ++ [b.serial, b.flags] ++
      (match b.part with
        | none => []
        | some p => partBytes p)
  | .stray b => [b.event, b.cell] ++ bytes24 b.code ++ [b.origin, b.serial]
  | .tally entries => entries.flatMap entryBytes
  | .census codes => codeBytes codes
  | .status b =>
    [b.station, b.command, b.result] ++ b.counters.toList.flatMap bytes16 ++ b.cells.toList
      ++ bytes16 b.incomplete ++ b.gaps.toList ++ [b.clamped]
  | .fault b => [b.code, b.cell]

/-- The body length that a body gives its frame (Table 11-2). -/
def bodyLength : Body → Nat
  | .alert _ => 10
  | .command b =>
    match b.payload with
    | .codes l => 3 + 3 * l.length
    | .cell _ => 4
  | .count b => if b.part.isSome then 13 else 7
  | .stray _ => 7
  | .tally entries => 6 * entries.length
  | .census codes => 3 * codes.length
  | .status _ => 46
  | .fault _ => 2

/-- Whether a kind admits the length of this body: up to 12 entries, codes or list items, and at least one CENSUS code (R127). -/
def lengthAdmitted : Body → Bool
  | .command b =>
    match b.payload with
    | .codes l => decide (l.length ≤ 12)
    | .cell _ => true
  | .tally entries => decide (entries.length ≤ 12)
  | .census codes => decide (1 ≤ codes.length) && decide (codes.length ≤ 12)
  | _ => true

/-- The bytes that the check covers: the three header bytes and the body (R169). -/
def coveredBytes (f : Frame) : List Byte :=
  [bodyKind f.body, BitVec.ofNat 8 (bodyLength f.body), f.source] ++ bodyBytes f.body

/-- The characters of a frame after the two sync characters: header, body and check, high byte first (Table 11-1). -/
def frameAfterSync (f : Frame) : List Byte := coveredBytes f ++ bytes16 (crc16 (coveredBytes f))

/-- All characters of a frame on the line (Table 11-1). -/
def frameCharacters (f : Frame) : List Byte := [Config.syncChar, Config.syncChar] ++ frameAfterSync f

/-- The ten bits of a character: start bit 0, eight data bits with the least significant first, stop bit 1 (R107). -/
def characterBits (c : Byte) : List Bool :=
  [false] ++ [0, 1, 2, 3, 4, 5, 6, 7].map (fun i => c.getLsbD i) ++ [true]

/-- The bits of a frame on the line, the characters back to back (R107). -/
def frameBits (f : Frame) : List Bool := (frameCharacters f).flatMap characterBits

/-- The line as every receiver reads it while two senders drive it: a 0 from either is read (R107). -/
def wiredLine (a b : List Bool) : List Bool := a.zipWith (· && ·) b

/-- The number of the first bit whose reading differs from the bit being sent (R115). -/
def firstMismatch : List Bool → List Bool → Option Nat
  | [], _ => none
  | _, [] => none
  | s :: ss, r :: rs => if s = r then (firstMismatch ss rs).map (· + 1) else some 0

/-- Reads a row of bytes as article codes; none where bytes are left over. -/
def readCodes : List Byte → Option (List Code)
  | [] => some []
  | a :: b :: c :: rest => (readCodes rest).map (word24 a b c :: ·)
  | _ => none

/-- Reads a row of bytes as TALLY entries; none where bytes are left over. -/
def readEntries : List Byte → Option (List TallyEntry)
  | [] => some []
  | a :: b :: c :: d :: e :: f :: rest => (readEntries rest).map (⟨word24 a b c, word16 d e, f⟩ :: ·)
  | _ => none

/-- Reads a row of bytes as 16-bit fields; none where a byte is left over. -/
def readWords : List Byte → Option (List (BitVec 16))
  | [] => some []
  | a :: b :: rest => (readWords rest).map (word16 a b :: ·)
  | _ => none

/-- A list of n values as a vector. -/
def vectorOf (n : Nat) (l : List α) : Option (Vector α n) :=
  if h : l.toArray.size = n then some ⟨l.toArray, h⟩ else none

/-- Reads the 46 bytes of a STATUS body (Table 11-4). -/
def readStatus (bytes : List Byte) : Option Body :=
  match bytes with
  | station :: command :: result :: rest => do
    let counters ← (readWords (rest.take 16)).bind (vectorOf 8)
    let cells ← vectorOf 12 ((rest.drop 16).take 12)
    let gaps ← vectorOf 12 ((rest.drop 30).take 12)
    match (rest.drop 28).take 2, rest.drop 42 with
    | [hi, lo], [clamped] => some (.status ⟨station, command, result, counters, cells, word16 hi lo, gaps, clamped⟩)
    | _, _ => none
  | _ => none

/-- Reads the body of a frame of a kind; none for a kind that is none of the eight, or a length that the kind does not admit
(R127, R170). -/
def readBody (kind : Byte) (bytes : List Byte) : Option Body :=
  if kind = 1 then
    match bytes with
    | [a, b, c, state, urgency, d, e, f, g, h] => some (.alert ⟨word24 a b c, state, urgency, word24 d e f, word16 g h⟩)
    | _ => none
  else if kind = 2 then
    match bytes with
    | [target, code, option, cell] => some (.command ⟨target, code, option, .cell cell⟩)
    | target :: code :: option :: rest =>
      (readCodes rest).bind (fun l => if l.length ≤ 12 then some (.command ⟨target, code, option, .codes l⟩) else none)
    | _ => none
  else if kind = 3 then
    match bytes with
    | [a, b, c, d, e, serial, flags] => some (.count ⟨word24 a b c, word16 d e, serial, flags, none⟩)
    | [a, b, c, d, e, serial, flags, units, f, g, h, i, departure] =>
      some (.count ⟨word24 a b c, word16 d e, serial, flags, some ⟨units, word16 f g, word16 h i, departure⟩⟩)
    | _ => none
  else if kind = 4 then
    match bytes with
    | [event, cell, a, b, c, origin, serial] => some (.stray ⟨event, cell, word24 a b c, origin, serial⟩)
    | _ => none
  else if kind = 5 then
    (readEntries bytes).bind (fun l => if l.length ≤ 12 then some (.tally l) else none)
  else if kind = 6 then
    (readCodes bytes).bind (fun l => if 1 ≤ l.length ∧ l.length ≤ 12 then some (.census l) else none)
  else if kind = 7 then readStatus bytes
  else if kind = 8 then
    match bytes with
    | [code, cell] => some (.fault ⟨code, cell⟩)
    | _ => none
  else none

/-- The body length of a header whose three characters have been read (R109). -/
def headerLength (characters : List Byte) : Option Nat :=
  match characters with
  | _ :: length :: _ :: _ => some length.toNat
  | _ => none

/-- The header's body length is above 80, which ends the assembly at the third header character (R110). -/
def isOverLength (characters : List Byte) : Bool :=
  match headerLength characters with
  | some n => decide (Config.bodyMax < n)
  | none => false

/-- A row of characters after the sync characters that is complete: a header with a body length of at most 80, so many body
characters, and two check characters (R109, R110). -/
def isComplete (characters : List Byte) : Bool :=
  match headerLength characters with
  | some n => decide (n ≤ Config.bodyMax) && characters.length == n + 5
  | none => false

/-- The bit times for which the line has been at 1 when the stop bit of a character is read: the 1 bits behind its last 0 bit
(R107, R108). -/
def onesAtStop (c : Byte) : Nat := ((characterBits c).dropLast.reverse.takeWhile id).length

/-- The same at the last stop bit of a frame, that of the low check character (R108, R109). -/
def onesAtEnd (f : Frame) : Nat := onesAtStop ((crc16 (coveredBytes f)).extractLsb' 0 8)

/-- The frame that a complete row of characters after the sync characters is, where it is good: the header's length fits, the
check computed over header and body equals the check characters, and kind and length are admitted (R127). -/
def goodFrame (characters : List Byte) : Option Frame :=
  match characters with
  | kind :: length :: source :: rest =>
    let body := rest.take length.toNat
    if rest.length = length.toNat + 2 ∧
        rest.drop length.toNat = bytes16 (crc16 ([kind, length, source] ++ body)) then
      (readBody kind body).map (fun b => ⟨source, b⟩)
    else none
  | _ => none

/-- The class of a frame kind by its content (R113). -/
def contentClass : Content → Nat
  | .alert .. | .command .. => 0
  | .count .. | .stray .. => 1
  | .tally | .census _ | .status _ | .fault .. => 2

end Sys2Proof.Machine
end

