-- ==== Sys2Proof/WellFormed.lean ====
section
/-! DEFINITION. Which commands are well formed: operands that the connection they come from can carry. -/

namespace Sys2Proof

/-- A COMMAND's list holds at most 12 article codes (R125). -/
def Payload.wf : Payload → Bool
  | .codes l => decide (l.length ≤ 12)
  | .cell _ => true

/-- The operands of a command lie in the ranges that the spec gives them: addresses within the 512 bytes of the memory (10.2), slots
0 to 95 (R112), a body length above 80 for a discard (R110), a complete row of characters that is no good frame for a bad frame
(R110, R127), list
lengths the kinds admit (R127), peers 1 to 30 (R64), a sync character that differs (R110), and a command code that names none of
the seven (R137). -/
def Instr.wf : Instr → Bool
  | .powerOn => true
  | .eepromNoAnswer silence => decide (silence.position < Config.memorySize)
  | .imageLoadEnd image => decide (image.length ≤ Config.memorySize)
  | .unconfiguredFaultMinute => true
  | .supplySample _ => true
  | .conversion _ => true
  | .warmUpEnd _ => true
  | .enterUnsteady _ => true
  | .enterFault _ => true
  | .leaveFault _ => true
  | .departureExpiry => true
  | .lineIdle => true
  | .overLengthDiscard length => decide (Config.bodyMax < length.toNat)
  | .contentionSlot slot => decide (slot < Config.roundSlots)
  | .roundRepeat => true
  | .collision => true
  | .attemptSucceeded => true
  | .badFrame characters => Machine.isComplete characters && (Machine.goodFrame characters).isNone
  | .countTaken _ _ => true
  | .alertTaken _ _ => true
  | .strayTaken _ _ => true
  | .tallyTaken _ entries => decide (entries.length ≤ 12)
  | .censusTaken _ codes => decide (1 ≤ codes.length) && decide (codes.length ≤ 12)
  | .statusTaken _ _ => true
  | .faultTaken _ _ => true
  | .ack _ _ _ payload => payload.wf
  | .restockBegin _ _ _ payload => payload.wf
  | .restockEnd _ _ _ payload => payload.wf
  | .query _ _ _ payload => payload.wf
  | .recount _ _ _ payload => payload.wf
  | .zero _ _ _ payload => payload.wf
  | .restart _ _ _ payload => payload.wf
  | .censusWindowEnd => true
  | .joiningLimit => true
  | .tallyPhase => true
  | .entryStale _ peer => decide (1 ≤ peer) && decide (peer ≤ 30)
  | .entryRemoved _ peer => decide (1 ≤ peer) && decide (peer ≤ 30)
  | .leadTimerExpiry _ => true
  | .claimTimerExpiry _ => true
  | .startHoldExpiry _ => true
  | .reminderTimerExpiry _ => true
  | .restockTimerExpiry _ => true
  | .keyPressBegin => true
  | .keyRelease => true
  | .longPress => true
  | .carrier _ => true
  | .framingError => true
  | .syncMismatch character => character != Config.syncChar
  | .unknownCommandCode _ _ code _ payload => (Machine.commandOf code).isNone && payload.wf
  | .supplyFailure => true

end Sys2Proof
end

