-- ==== Sys2Proof/Machine/Flags.lean ====
section
/-! DEFINITION. The line counters, and the flags and marks that a STATUS reports (R121, R130, R146; Table 11-4). -/

namespace Sys2Proof.Machine

/-- A line counter is increased by 1 and holds at 65,535 (R121). -/
def bump (n : Nat) : Nat := if n < Config.counterMax then n + 1 else Config.counterMax

/-- The *frames taken* counter rises (R127). -/
def State.countTaken (s : State) : State :=
  { s with counters := { s.counters with framesTaken := bump s.counters.framesTaken } }

/-- The *bad frames* counter rises (R110, R127). -/
def State.countBad (s : State) : State :=
  { s with counters := { s.counters with badFrames := bump s.counters.badFrames } }

/-- The *over-length* counter rises (R110, R130). -/
def State.countOverLength (s : State) : State :=
  { s with counters := { s.counters with overLength := bump s.counters.overLength } }

/-- The *filtered* counter rises (R128). -/
def State.countFiltered (s : State) : State :=
  { s with counters := { s.counters with filtered := bump s.counters.filtered } }

/-- The *unknown article* counter rises (R128). -/
def State.countUnknown (s : State) : State :=
  { s with counters := { s.counters with unknownArticle := bump s.counters.unknownArticle } }

/-- The *collisions* counter rises (R115). -/
def State.countCollision (s : State) : State :=
  { s with counters := { s.counters with collisions := bump s.counters.collisions } }

/-- The *send failures* counter rises (R117). -/
def State.countSendFailure (s : State) : State :=
  { s with counters := { s.counters with sendFailures := bump s.counters.sendFailures } }

/-- The *send drops* counter rises (R134). -/
def State.countSendDrop (s : State) : State :=
  { s with counters := { s.counters with sendDrops := bump s.counters.sendDrops } }

/-- One bit of a byte. -/
def flagBit (b : Bool) (i : Nat) : Byte := if b then 1#8 <<< i else 0#8

/-- The summary byte of a cell: its state and its four marks; bit 7 is reserved and 0 (Table 11-4). -/
def cellSummary (c : CellRecord) : Byte :=
  c.state.value ||| flagBit c.saturated 3 ||| flagBit c.countClamped 4 ||| flagBit c.recountInexact 5
    ||| flagBit c.firstRest 6

/-- The *INCOMPLETE* flags: bit k for line k, bits 12 to 15 reserved and 0 (Table 11-4). -/
def incompleteFlags (lines : Vector ArticleLine 12) : BitVec 16 :=
  BitVec.ofNat 16 (allTwelve.foldl (fun n k => if lines[k].incomplete then n + 2 ^ k.val else n) 0)

/-- The eight line counters in the order of R146. -/
def counterFields (c : Counters) : Vector (BitVec 16) 8 :=
  #v[BitVec.ofNat 16 c.framesTaken, BitVec.ofNat 16 c.badFrames, BitVec.ofNat 16 c.overLength,
    BitVec.ofNat 16 c.filtered, BitVec.ofNat 16 c.unknownArticle, BitVec.ofNat 16 c.collisions,
    BitVec.ofNat 16 c.sendFailures, BitVec.ofNat 16 c.sendDrops]

/-- The STATUS formed at a request, after the command has been carried out (R146). -/
def State.statusBody (s : State) (command : CommandCode) (result : ResultCode) : StatusBody where
  station := s.station.value
  command := command.value
  result := result.value
  counters := counterFields s.counters
  cells := s.cells.map cellSummary
  incomplete := incompleteFlags s.lines
  gaps := s.lines.map (fun l => BitVec.ofNat 8 l.serialGaps)
  clamped := if s.imageClamped then 1 else 0

end Sys2Proof.Machine
end

