-- ==== Sys2Proof/Machine/Ops.lean ====
section
/-! DEFINITION. The named operations over the state that the meanings share: cells, lines and clock, the departure log, the send
queue (R131 to R136), and attempts on the line (R114, R115, R117). -/

namespace Sys2Proof.Machine

/-! ### Cells, lines and the clock -/

/-- A cell record. -/
def State.cell (s : State) (i : Fin 12) : CellRecord := s.cells[i]

/-- An article line. -/
def State.line (s : State) (l : Fin 12) : ArticleLine := s.lines[l]

/-- Changes one cell record. -/
def State.setCell (s : State) (i : Fin 12) (c : CellRecord) : State := { s with cells := s.cells.set i c }

/-- Changes one article line. -/
def State.setLine (s : State) (l : Fin 12) (a : ArticleLine) : State := { s with lines := s.lines.set l a }

/-- The article line of a cell's article, where the cell has one. -/
def State.lineOfCell (s : State) (i : Fin 12) : Option (Fin 12) := (s.cell i).line

/-- The line that is not VACANT and holds this article code exactly (R128). -/
def State.lineOf (s : State) (code : Code) : Option (Fin 12) :=
  allTwelve.find? (fun l => (s.line l).state != .vacant && (s.line l).config.code == code)

/-- The lines of a predicate, in line index order. -/
def State.linesWhere (s : State) (p : ArticleLine → Bool) : List (Fin 12) := allTwelve.filter (fun l => p (s.line l))

/-- The station clock runs on to a moment, where it has not reached it (log entry 1). -/
def State.advanceTo (s : State) (moment : Nat) : State := { s with clock := max s.clock moment }

/-- The station clock drives timers in RUNNING and in BROWNOUT (R166). -/
def State.timersRun (s : State) : Bool := s.station == .running || s.station == .brownout

/-- The receiver and the transmitter are on in RUNNING and in UNCONFIGURED (R107, R119). -/
def State.lineOn (s : State) : Bool := s.station == .running || s.station == .unconfigured

/-- The sum of the counts of some cells (R62). -/
def countSum (cells : Vector CellRecord 12) (list : List (Fin 12)) : Nat := (list.map (fun i => cells[i].count)).sum

/-- A cell takes a count; every line's own count is the sum of the counts of its cells from the same event on (R32, R62). -/
def State.setCount (s : State) (i : Fin 12) (n : Nat) : State :=
  let cells := s.cells.set i { s.cell i with count := n }
  { s with
    cells := cells
    lines := s.lines.map (fun a => { a with ownCount := countSum cells a.config.cells }) }

/-- The counts of a contribution map, stale entries included. -/
def mapSum (map : List MapEntry) : Nat := (map.map MapEntry.count).sum

/-- The aggregate of a line (R63). -/
def ArticleLine.aggregate (a : ArticleLine) : Nat := a.ownCount + mapSum a.map

/-- The map entry of a peer. -/
def ArticleLine.entry (a : ArticleLine) (peer : Nat) : Option MapEntry := a.map.find? (fun e => e.station == peer)

/-- LEAD or SOLO: this station decides the article's alerts (Table 4-3). -/
def ArticleLine.leads (a : ArticleLine) : Bool := a.state == .lead || a.state == .solo

/-- SOLO, LEAD or FOLLOW: the line reports its count (Table 4-3). -/
def ArticleLine.reports (a : ArticleLine) : Bool := a.leads || a.state == .follow

/-! ### The departure log -/

/-- An entry joins at the young end; at a full log the oldest leaves first (R43, R48). -/
def State.logJoin (s : State) (e : Departure) : State :=
  { s with log := s.log.drop (s.log.length + 1 - Config.logMax) ++ [e] }

/-- Takes one unit from the first entry of a list that satisfies a test; an entry left with no unit leaves (R50). -/
def takeUnit (p : Departure → Bool) : List Departure → List Departure
  | [] => []
  | e :: rest =>
    if p e then (if e.units ≤ 1 then rest else { e with units := e.units - 1 } :: rest) else e :: takeUnit p rest

/-- The youngest entry that satisfies a test (R43, R51). -/
def youngestEntry (p : Departure → Bool) (log : List Departure) : Option Departure := log.reverse.find? p

/-- One unit is consumed from the youngest entry that satisfies a test; the log is unchanged where there is none (R50, R56). -/
def State.consumeUnit (s : State) (p : Departure → Bool) : State :=
  { s with log := (takeUnit p s.log.reverse).reverse }

/-! ### The send queue -/

/-- A frame is WAITING. -/
def SendFrame.isWaiting (f : SendFrame) : Bool :=
  match f.phase with
  | .waiting => true
  | .sending _ => false

/-- The frame being sent (R131). -/
def State.sendingFrame (s : State) : Option SendFrame := s.queue.find? (fun f => !f.isWaiting)

/-- The station is sending (R114). -/
def State.isSending (s : State) : Bool := s.queue.any (fun f => !f.isWaiting)

/-- Two requests that merge, replace or absorb one another: a COUNT or an ALERT of one article, or a TALLY (R132, R133). -/
def sameKind (a b : Content) : Bool :=
  match a, b with
  | .count c _ _, .count d _ _ => c == d
  | .alert c _ _ _, .alert d _ _ _ => c == d
  | .tally, .tally => true
  | _, _ => false

/-- The departure parts of a waiting COUNT and of a request merge (R132). -/
def mergeParts (waiting request : Option DeparturePart) : Option DeparturePart :=
  match waiting, request with
  | none, r => r
  | some w, none => some w
  | some w, some r =>
    if w.unitWeight = r.unitWeight ∧ w.tolerance = r.tolerance then
      some { r with units := BitVec.ofNat 8 (min Config.stepMax (w.units.toNat + r.units.toNat)) }
    else some r

/-- What a waiting frame holds once a request has merged into it: R132 for a COUNT, R94 for an ALERT, R133 for a TALLY. -/
def mergeContent (waiting request : Content) : Content :=
  match waiting, request with
  | .count c claim part, .count _ claim' part' => .count c (claim && claim') (mergeParts part part')
  | .alert c _ _ _, .alert _ raised urgency reorder => .alert c raised urgency reorder
  | w, _ => w

/-- The highest class number among the WAITING frames (R134). -/
def highestWaiting (queue : List SendFrame) : Nat :=
  (queue.filter SendFrame.isWaiting).foldl (fun m f => max m (contentClass f.content)) 0

/-- The frame that a request into a full queue evicts: the youngest WAITING frame of the highest class, where the request's class
number is lower (R134). -/
def victim (queue : List SendFrame) (request : Content) : Option SendFrame :=
  let h := highestWaiting queue
  if contentClass request < h then queue.reverse.find? (fun f => f.isWaiting && contentClass f.content == h) else none

/-- A COUNT of an article is WAITING or SENDING. -/
def State.countInQueue (s : State) (code : Code) : Bool :=
  s.queue.any (fun f => sameKind f.content (.count code false none))

/-- The claim timer of a line starts (R82). -/
def State.startClaim (s : State) (l : Fin 12) : State := s.setLine l { s.line l with claimSince := some s.clock }

/-- The article table is told that a COUNT left the queue without being sent whole (R74). -/
def State.countLost (s : State) (code : Code) : State :=
  match s.lineOf code with
  | none => s
  | some l =>
    if (s.line l).state = .follow ∧ (s.line l).lead = 0 ∧ s.countInQueue code = false ∧ (s.line l).claimSince = none then
      s.startClaim l
    else s

/-- The block that asked for a frame is told of its drop, eviction or refusal (R136). The departures of a CENSUS and of the
STATUS of a pending restart are seen at the end of the event (log entry 15). -/
def State.tellLost (s : State) (c : Content) : State :=
  match c with
  | .count code _ _ => s.countLost code
  | _ => s

/-- A request joins as a new, youngest frame (R131). -/
def State.enqueue (s : State) (c : Content) : State :=
  { s with queue := s.queue ++ [⟨c, .waiting, s.nextAge, 0, none⟩], nextAge := s.nextAge + 1 }

/-- A frame leaves the queue. -/
def State.leaveQueue (s : State) (age : Nat) : State := { s with queue := s.queue.filter (fun f => f.age != age) }

/-- A request that is not merged joins where a slot is empty; at a full queue it evicts a frame or is refused (R134). -/
def State.joinQueue (s : State) (c : Content) : State :=
  if s.queue.length < Config.sendSlots then s.enqueue c
  else
    match victim s.queue c with
    | some f => (((s.leaveQueue f.age).enqueue c).countSendDrop).tellLost f.content
    | none => s.countSendDrop.tellLost c

/-- A block asks the transmitter to queue a frame: the request merges into a WAITING frame, or joins (R131 to R134). -/
def State.request (s : State) (c : Content) : State :=
  if s.queue.any (fun f => f.isWaiting && sameKind f.content c) then
    { s with
      queue := s.queue.map (fun f =>
        if f.isWaiting && sameKind f.content c then { f with content := mergeContent f.content c } else f) }
  else s.joinQueue c

/-- WAITING frames are withdrawn; a SENDING frame is not touched, and no counter changes (R135). -/
def State.withdraw (s : State) (p : Content → Bool) : State :=
  { s with queue := s.queue.filter (fun f => !(f.isWaiting && p f.content)) }

/-- An ALERT of an article. -/
def isAlertOf (code : Code) (c : Content) : Bool :=
  match c with
  | .alert d _ _ _ => d == code
  | _ => false

/-- A claim-only COUNT of an article. -/
def isClaimOf (code : Code) (c : Content) : Bool :=
  match c with
  | .count d claim _ => d == code && claim
  | _ => false

/-- A CENSUS. -/
def isCensus (c : Content) : Bool :=
  match c with
  | .census _ => true
  | _ => false

/-- Asks for a COUNT of a line (R33, R81, R84). -/
def State.requestCount (s : State) (l : Fin 12) (claimOnly : Bool) (part : Option DeparturePart) : State :=
  s.request (.count (s.line l).config.code claimOnly part)

/-- Asks for an ALERT of a line, or replaces the one that is WAITING (R94). -/
def State.requestAlert (s : State) (l : Fin 12) (raised : Bool) (urgency : Nat) : State :=
  s.request (.alert (s.line l).config.code raised urgency (s.line l).config.reorder)

/-- Asks for a TALLY, where a line is in SOLO, LEAD or FOLLOW (R75). -/
def State.requestTally (s : State) : State :=
  if (s.linesWhere ArticleLine.reports).isEmpty then s else s.request .tally

/-! ### Forming and failing an attempt -/

/-- The flag byte of a line's TALLY entry (Table 11-3). -/
def entryFlags (a : ArticleLine) : Byte :=
  BitVec.ofNat 8 (a.alert.state.value + 4 * a.alert.urgency + (if a.leads then 16 else 0))

/-- A line's entry in this station's TALLY (R75). -/
def tallyEntryOf (a : ArticleLine) : TallyEntry := ⟨a.config.code, BitVec.ofNat 16 a.ownCount, entryFlags a⟩

/-- The body of a frame at the start of an attempt: the send-time fields are formed from the station as it stands, and a COUNT
carries the serial it has taken (R114, R126). -/
def State.formBody (s : State) (c : Content) (serial : Byte) : Body :=
  match c with
  | .alert code raised urgency reorder =>
    let aggregate := ((s.lineOf code).map (fun l => (s.line l).aggregate)).getD 0
    .alert ⟨code, if raised then 1 else 0, BitVec.ofNat 8 urgency, BitVec.ofNat 24 aggregate, BitVec.ofNat 16 reorder⟩
  | .command command codes => .command ⟨0, command.value, 0, .codes codes⟩
  | .count code claim part =>
    let own := ((s.lineOf code).map (fun l => (s.line l).ownCount)).getD 0
    .count ⟨code, BitVec.ofNat 16 own, serial, if claim then 1 else 0, part⟩
  | .stray placed cell x =>
    .stray ⟨if placed then 0 else 1, BitVec.ofNat 8 cell.val, x.code, BitVec.ofNat 8 x.origin, x.serial⟩
  | .tally => .tally ((s.linesWhere ArticleLine.reports).map (fun l => tallyEntryOf (s.line l)))
  | .census codes => .census codes
  | .status body => .status body
  | .fault fault cell => .fault ⟨fault.value, (cell.map (fun i => BitVec.ofNat 8 i.val)).getD 255⟩

/-- The COUNT serial of a frame's first attempt: the line's own COUNT serial is increased by 1, from 255 to 0, and the frame keeps
the new value; a frame that holds a serial keeps it (R67). -/
def State.takeSerial (s : State) (f : SendFrame) : State × Byte :=
  match f.serial, f.content with
  | some n, _ => (s, n)
  | none, .count code _ _ =>
    match s.lineOf code with
    | some l => (s.setLine l { s.line l with serial := (s.line l).serial + 1 }, (s.line l).serial + 1)
    | none => (s, 0)
  | none, _ => (s, 0)

/-- A frame takes the place of the frame of its age. -/
def State.replaceFrame (s : State) (f : SendFrame) : State :=
  { s with queue := s.queue.map (fun g => if g.age == f.age then f else g) }

/-- An attempt begins: the frame enters SENDING with its fields formed, and its start bit is carrier on the idle line, which
begins a frame in assembly; the line is at 0 for that bit (R107 to R109, R114). -/
def State.beginAttempt (s : State) (f : SendFrame) : State :=
  let s' := (s.takeSerial f).1
  let n := (s.takeSerial f).2
  let frame : Frame := ⟨BitVec.ofNat 8 s'.number, s'.formBody f.content n⟩
  let held : Option Byte :=
    match f.content with
    | .count .. => some n
    | _ => f.serial
  let s'' := s'.replaceFrame { f with phase := .sending frame, serial := held }
  { s'' with lineLow := 1, access := { s''.access with idle := false, quiet := 0, assembly := .assembling } }

/-- A failed frame returns to WAITING; a younger WAITING frame of the same kind leaves the queue and its contents go into the
returning frame (R115). -/
def State.returnToWaiting (s : State) (f : SendFrame) : State :=
  let younger := s.queue.find? (fun g => g.isWaiting && sameKind g.content f.content)
  let content :=
    match younger with
    | some g => mergeContent f.content g.content
    | none => f.content
  let s' :=
    match younger with
    | some g => s.leaveQueue g.age
    | none => s
  s'.replaceFrame { f with content := content, phase := .waiting }

/-- An attempt fails, by collision or by cut: the attempt count rises, and at 16 the frame is dropped, counted and told
(R115, R117, R120). -/
def State.failAttempt (s : State) (f : SendFrame) : State :=
  let f' := { f with attempts := f.attempts + 1 }
  if Config.attemptLimit ≤ f'.attempts then ((s.leaveQueue f.age).countSendFailure).tellLost f.content
  else s.returnToWaiting f'

/-! ### The full start and the end of an event -/

/-- The full start: every block takes its values after power-on and the station is in LOADING. The configuration memory, the
level of the aisle line and the waiting commands are not the station's to reset (R156, R168). -/
def State.fullStart (s : State) : State :=
  { State.reset with
    eeprom := s.eeprom
    lineLow := s.lineLow
    pending := s.pending }

/-- The census window starts at the event at which the CENSUS leaves the send queue (R164). -/
def State.openCensusWindow (s : State) : State :=
  if s.census = .queued ∧ s.queue.any (fun f => isCensus f.content) = false then
    { s with census := .window s.clock }
  else s

/-- The STATUS that the restart pending mark names is not in the send queue (R144). -/
def State.restartDue (s : State) : Bool :=
  match s.restartPending with
  | none => false
  | some age => !s.queue.any (fun f => f.age == age)

/-- What an event ends with: the census window where the CENSUS has left the queue, and the restart where the STATUS of a pending
restart has left it (R136, R144, R164; log entry 15). -/
def State.finish (s : State) : State :=
  let s' := s.openCensusWindow
  if s'.restartDue then s'.fullStart else s'

end Sys2Proof.Machine
end

