-- ==== Sys2Proof/Machine/Alerts.lean ====
section
/-! DEFINITION. Restocking alerts (chapter 5): the alert record, its evaluation by the lead, ALERT frames, article commands and
adoption from the lead's TALLY. -/

namespace Sys2Proof.Machine

/-- A state and an urgency: what an ALERT announces, and what a record or a waiting ALERT stands at (R91). -/
structure Standing where
  state : AlertState
  urgency : Nat
deriving DecidableEq, Repr

/-- What the ALERT of a frame announces, where it is an ALERT of this article. -/
def alertOf (code : Code) (f : SendFrame) : Option Standing :=
  match f.content with
  | .alert d raised urgency _ => if d = code then some ⟨if raised then .raised else .clear, urgency⟩ else none
  | _ => none

/-- The ALERT of an article that stands in the queue: a WAITING one, and where there is none a SENDING one (R91). -/
def State.queuedAlert (s : State) (code : Code) : Option Standing :=
  match (s.queue.filter SendFrame.isWaiting).findSome? (alertOf code) with
  | some a => some a
  | none => s.queue.findSome? (alertOf code)

/-- The record's own state and urgency. -/
def AlertRecord.standing (r : AlertRecord) : Standing := ⟨r.state, r.urgency⟩

/-- The decision table (R92). -/
def tableDecision (standing : Standing) (aggregate reorder margin : Nat) : Option Standing :=
  match standing.state with
  | .clear =>
    if aggregate ≤ reorder then some ⟨.raised, if aggregate = 0 then 2 else 1⟩ else none
  | .raised | .held =>
    if aggregate = 0 ∧ standing.urgency = 1 then some ⟨.raised, 2⟩
    else if reorder + margin ≤ aggregate then some ⟨.clear, 0⟩
    else none
  | .restocking => none

/-- The urgency of a reminder: one step above a RAISED standing alert of the record's own, 3 at most, where the reminder due flag
is set (R93). -/
def reminderUrgency (standing : Standing) (own due : Bool) : Option Nat :=
  if due && own && standing.state == .raised then some (if standing.urgency = 1 then 2 else 3) else none

/-- The decision of an evaluation: the table, and the reminder where the table decides nothing or decides RAISED (R92, R93). -/
def decision (standing : Standing) (own due : Bool) (aggregate reorder margin : Nat) : Option Standing :=
  match tableDecision standing aggregate reorder margin, reminderUrgency standing own due with
  | none, none => none
  | none, some k => some ⟨.raised, k⟩
  | some d, none => some d
  | some d, some k => if d.state = .raised then some ⟨.raised, max d.urgency k⟩ else some d

/-- An evaluation is carried out by a line in LEAD or SOLO, out of its start hold, whose record is not RESTOCKING (R90). -/
def ArticleLine.evaluates (a : ArticleLine) : Bool :=
  a.leads && a.holdSince.isNone && a.alert.state != .restocking

/-- What an evaluation of a line decides, from the standing alert at this moment (R91 to R93). -/
def State.decisionOf (s : State) (l : Fin 12) : Option Standing :=
  let a := s.line l
  let queued := s.queuedAlert a.config.code
  decision (queued.getD a.alert.standing) queued.isNone a.alert.reminderDue a.aggregate a.config.reorder a.config.margin

/-- A line is handed an evaluation; a decision asks for an ALERT, and no record changes (R88, R90, R94). -/
def State.evaluate (s : State) (l : Fin 12) : State :=
  if (s.line l).evaluates then
    match s.decisionOf l with
    | none => s
    | some d => s.requestAlert l (d.state == .raised) d.urgency
  else s

/-- Changes the alert record of a line. -/
def State.setAlert (s : State) (l : Fin 12) (r : AlertRecord) : State := s.setLine l { s.line l with alert := r }

/-- The reminder timer of a line started from 0 at this moment; an interval of 0 leaves it stopped (R89, R98). -/
def State.freshReminder (s : State) (l : Fin 12) : Option Nat :=
  if (s.line l).config.reminderMinutes = 0 then none else some s.clock

/-- An ALERT is taken for a line: R89's table. A frame whose state and urgency are no pair of R123 leaves the record. -/
def State.alertFrame (s : State) (l : Fin 12) (state urgency : Nat) : State :=
  let r := (s.line l).alert
  match alertStateOf state, r.state with
  | some .raised, .restocking | some .clear, .restocking => s
  | some .raised, _ =>
    if alertPaired .raised urgency then
      s.setAlert l { r with
        state := .raised
        urgency := max r.urgency urgency
        reminderSince := s.freshReminder l
        reminderDue := false }
    else s
  | some .clear, _ =>
    if alertPaired .clear urgency then
      s.setAlert l { r with state := .clear, urgency := 0, reminderSince := none, reminderDue := false }
    else s
  | _, _ => s

/-- ACK on a line: a RAISED record becomes HELD, the WAITING ALERT is withdrawn, and the line is handed an evaluation (R101). -/
def State.ackLine (s : State) (l : Fin 12) : State :=
  let r := (s.line l).alert
  if r.state = .raised then
    ((s.setAlert l { r with state := .held, reminderSince := none, reminderDue := false }).withdraw
      (isAlertOf (s.line l).config.code)).evaluate l
  else s

/-- RESTOCK-BEGIN on a line: RESTOCKING with urgency 0 from any state, the restock timer from 0, the WAITING ALERT withdrawn
(R102). -/
def State.restockBeginLine (s : State) (l : Fin 12) : State :=
  (s.setAlert l
    { state := .restocking, urgency := 0, reminderSince := none, reminderDue := false, restockSince := some s.clock }).withdraw
      (isAlertOf (s.line l).config.code)

/-- The restocking period ends: the record is CLEAR with urgency 0, its timers stopped, and the line is handed an evaluation
(R103, R104). -/
def State.endRestock (s : State) (l : Fin 12) : State := (s.setAlert l .blank).evaluate l

/-- RESTOCK-END on a line: it acts on a RESTOCKING record alone (R103). -/
def State.restockEndLine (s : State) (l : Fin 12) : State :=
  if (s.line l).alert.state = .restocking then s.endRestock l else s

/-- The first of each code of a list, in order: a code listed twice reaches its line once (R100). -/
def firstOccurrences (codes : List Code) : List Code :=
  codes.foldl (fun seen c => if seen.contains c then seen else seen ++ [c]) []

/-- An article command reaches each line that is not VACANT and whose code stands in its list, in the order of the list (R100). -/
def State.articleCommand (s : State) (act : State → Fin 12 → State) (codes : List Code) : State :=
  (firstOccurrences codes).foldl (fun s c =>
    match s.lineOf c with
    | some l => act s l
    | none => s) s

/-- The record that the adoption of the lead's alert part leaves: R105's table. The reminder due flag is cleared at every change
of state. -/
def adopted (r : AlertRecord) (state : AlertState) (urgency : Nat) (reminder : Option Nat) (now : Nat) : AlertRecord :=
  match state, r.state with
  | .clear, .clear => r
  | .clear, _ => .blank
  | .raised, .raised => { r with urgency := max r.urgency urgency }
  | .raised, .restocking => ⟨.raised, urgency, reminder, false, none⟩
  | .raised, _ => ⟨.raised, max r.urgency urgency, reminder, false, r.restockSince⟩
  | .held, .held => { r with urgency := max r.urgency urgency }
  | .held, .restocking => ⟨.held, urgency, none, false, none⟩
  | .held, _ => ⟨.held, max r.urgency urgency, none, false, r.restockSince⟩
  | .restocking, .restocking => r
  | .restocking, _ => ⟨.restocking, 0, none, false, some now⟩

/-- A line adopts the alert part of its lead's TALLY entry; one whose state and urgency do not pair is not adopted, and one that
makes the record RESTOCKING withdraws the WAITING ALERT (R105). -/
def State.adopt (s : State) (l : Fin 12) (state : AlertState) (urgency : Nat) : State :=
  if alertPaired state urgency then
    let r := (s.line l).alert
    let s' := s.setAlert l (adopted r state urgency (s.freshReminder l) s.clock)
    if state = .restocking ∧ r.state ≠ .restocking then s'.withdraw (isAlertOf (s.line l).config.code) else s'
  else s

/-- The minute evaluations, in line index order (R99). -/
def State.minuteEvaluations (s : State) : State := allTwelve.foldl State.evaluate s

end Sys2Proof.Machine
end

