-- ==== Sys2Proof/Machine/Articles.lean ====
section
/-! DEFINITION. Article lines (chapter 4): the contribution map, taking COUNT, TALLY and CENSUS frames, leaving JOINING, silent
peers and claims. -/

namespace Sys2Proof.Machine

/-- A peer's COUNT brings its map entry up to date: count, silence 0, fresh, and the frame's serial as last serial (R65, R68, R71). -/
def countedEntry (e : MapEntry) (count : Nat) (serial : Byte) (now : Nat) : MapEntry :=
  { e with count := count, lastSerial := some serial, heardAt := now, stale := false }

/-- A peer's TALLY entry brings its map entry up to date; the last serial stays (R76). -/
def talliedEntry (e : MapEntry) (count now : Nat) : MapEntry :=
  { e with count := count, heardAt := now, stale := false }

/-- Changes the entries of one peer. -/
def updateEntry (map : List MapEntry) (peer : Nat) (f : MapEntry → MapEntry) : List MapEntry :=
  map.map (fun e => if e.station == peer then f e else e)

/-- A gap: the entry holds a last serial and the frame's serial is not the next one, counted from 255 to 0 (R68). -/
def serialGap (e : MapEntry) (serial : Byte) : Bool :=
  match e.lastSerial with
  | none => false
  | some n => serial != n + 1

/-- Step 1 of R71: a peer's COUNT updates or adds its entry, or sets INCOMPLETE at a full map (R64, R66, R68). -/
def ArticleLine.countEntry (a : ArticleLine) (peer count : Nat) (serial : Byte) (now : Nat) : ArticleLine :=
  match a.entry peer with
  | some e =>
    { a with
      map := updateEntry a.map peer (fun e => countedEntry e count serial now)
      serialGaps := if serialGap e serial then min Config.gapsMax (a.serialGaps + 1) else a.serialGaps }
  | none =>
    if a.map.length < Config.mapMax then { a with map := a.map ++ [⟨peer, count, some serial, now, false⟩] }
    else { a with incomplete := true }

/-- Step 1 of R76: a peer's TALLY entry updates or adds its entry, or sets INCOMPLETE at a full map (R64, R66). -/
def ArticleLine.tallyEntry (a : ArticleLine) (peer count now : Nat) : ArticleLine :=
  match a.entry peer with
  | some _ => { a with map := updateEntry a.map peer (fun e => talliedEntry e count now) }
  | none =>
    if a.map.length < Config.mapMax then { a with map := a.map ++ [⟨peer, count, none, now, false⟩] }
    else { a with incomplete := true }

/-- This station's own COUNT, taken on read-back, makes it lead; the line is handed an evaluation. A line in JOINING or VACANT is
left as it stands (R73; log entry 12). -/
def State.ownCountTaken (s : State) (l : Fin 12) : State :=
  let a := s.line l
  if a.reports then
    (s.setLine l { a with
      state := if a.map.isEmpty then .solo else .lead
      lead := s.number
      leadSince := none
      claimSince := none }).evaluate l
  else s

/-- A peer's COUNT, taken for a line (R71, R72). -/
def State.peerCountTaken (s : State) (l : Fin 12) (peer count : Nat) (serial : Byte) : State :=
  let a := (s.line l).countEntry peer count serial s.clock
  match (s.line l).state with
  | .vacant => s
  | .joining => s.setLine l { a with lead := peer, leadSince := some s.clock }
  | .solo | .lead | .follow =>
    (s.setLine l { a with state := .follow, lead := peer, leadSince := some s.clock, claimSince := none }).withdraw
      (fun c => isAlertOf a.config.code c || isClaimOf a.config.code c)

/-- A COUNT handed to a line is treated by its source (R70). -/
def State.lineCount (s : State) (l : Fin 12) (source count : Nat) (serial : Byte) : State :=
  if source = s.number then s.ownCountTaken l
  else if isPeer s.number source then s.peerCountTaken l source count serial
  else s

/-- The count part of a TALLY entry from a peer: R76, steps 1 to 4. -/
def State.tallyCount (s : State) (l : Fin 12) (peer count : Nat) : State :=
  let before := s.line l
  let a := before.tallyEntry peer count s.clock
  let added := before.map.length < a.map.length
  let a := if a.state = .solo ∧ added then { a with state := .lead } else a
  let a := if a.lead = peer then { a with leadSince := some s.clock } else a
  let s' := s.setLine l a
  if a.aggregate ≠ before.aggregate ∧ a.leads then s'.evaluate l else s'

/-- The lead flag of a TALLY entry from a peer (R77). -/
def State.tallyLead (s : State) (l : Fin 12) (peer : Nat) (flag : Bool) : State :=
  let a := s.line l
  if flag = false then s
  else if a.lead = 0 then s.setLine l { a with lead := peer, leadSince := some s.clock, claimSince := none }
  else if a.leads then s.requestCount l true none
  else s

/-- A TALLY entry from a peer, for a line that is not VACANT: the count part, the lead flag, and the alert part where the peer is
then the line's lead (R76, R77). -/
def State.peerTallyTaken (s : State) (l : Fin 12) (peer : Nat) (e : TallyEntry) : State :=
  let s' := (s.tallyCount l peer (countField e.count)).tallyLead l peer (tallyLeadFlag e)
  if (s'.line l).lead = peer then s'.adopt l (tallyAlertState e) (tallyUrgency e) else s'

/-- A TALLY entry handed to a line: one from this station, from 0 or from 31 leaves the line (R75, R76). -/
def State.lineTally (s : State) (l : Fin 12) (source : Nat) (e : TallyEntry) : State :=
  if isPeer s.number source then s.peerTallyTaken l source e else s

/-- A line leaves JOINING: into SOLO with this station as lead where its map is empty, else into FOLLOW; its start hold starts, and
it asks for its initial COUNT (R81). -/
def State.leaveJoining (s : State) (l : Fin 12) : State :=
  let a := s.line l
  let a' :=
    if a.map.isEmpty then { a with state := .solo, lead := s.number, leadSince := none }
    else { a with state := .follow }
  (s.setLine l { a' with holdSince := some s.clock }).requestCount l false none

/-- The conditions of R80 for a line in JOINING: the census window has ended, and each cell of the line has had its first rest or
is in FAULT. -/
def State.mayLeaveJoining (s : State) (l : Fin 12) : Bool :=
  (s.line l).state == .joining
    && (match s.census with
      | .ended _ => true
      | _ => false)
    && (s.line l).config.cells.all (fun i => !(s.cell i).firstRest || (s.cell i).state == .fault)

/-- Tests a line's conditions for leaving JOINING (R80). -/
def State.testJoining (s : State) (l : Fin 12) : State := if s.mayLeaveJoining l then s.leaveJoining l else s

/-- Tests the conditions of the line of a cell's article (R80). -/
def State.testJoiningOfCell (s : State) (i : Fin 12) : State :=
  match s.lineOfCell i with
  | some l => s.testJoining l
  | none => s

/-- A line has lost its lead to silence: the lead becomes 0 and the lead timer stops; a FOLLOW line starts its claim timer
(R82, R83). -/
def State.loseLead (s : State) (l : Fin 12) : State :=
  let a := s.line l
  let s' := s.setLine l { a with lead := 0, leadSince := none }
  if a.state = .follow then s'.startClaim l else s'

/-- An entry becomes stale; where it is the lead's, the lead is lost (R65, R82). -/
def State.markStale (s : State) (l : Fin 12) (peer : Nat) : State :=
  let a := s.line l
  let s' := s.setLine l { a with map := updateEntry a.map peer (fun e => { e with stale := true }) }
  if a.lead = peer then s'.loseLead l else s'

/-- An entry leaves the map at 600 s of silence (R85). -/
def State.dropEntry (s : State) (l : Fin 12) (peer : Nat) : State :=
  let before := s.line l
  let a := { before with map := before.map.filter (fun e => e.station != peer) }
  let emptied := a.map.isEmpty && (a.state == .lead || a.state == .follow)
  let a := if emptied then { a with state := .solo, lead := s.number, leadSince := none, claimSince := none } else a
  let s' := s.setLine l a
  if a.leads ∧ (a.aggregate ≠ before.aggregate ∨ (a.map.isEmpty ∧ a.alert.reminderDue)) then s'.evaluate l else s'

end Sys2Proof.Machine
end

