-- ==== Sys2Proof/Machine/Evaluator.lean ====
section
/-! DEFINITION. The cell evaluator: the judgement of a settled step, recount and zeroing (chapter 2), with stray placement and
removal (chapter 3). -/

namespace Sys2Proof.Machine

/-- The configuration part of the article line of a cell's article: the unit weight and tolerance that the evaluator reads (R21). -/
def State.configOfCell (s : State) (i : Fin 12) : LineConfig :=
  match s.lineOfCell i with
  | some l => (s.line l).config
  | none => .blank

/-- The alert record of a cell's article is RESTOCKING (R30). -/
def State.restockingCell (s : State) (i : Fin 12) : Bool :=
  match s.lineOfCell i with
  | some l => (s.line l).alert.state == .restocking
  | none => false

/-- The line of a cell's article asks for a COUNT, where it is not JOINING (R33, R34). -/
def State.requestCountOfCell (s : State) (i : Fin 12) (part : Option DeparturePart) : State :=
  match s.lineOfCell i with
  | some l => if (s.line l).reports then s.requestCount l false part else s
  | none => s

/-- The baseline of a cell becomes the mean of the instant (R21). -/
def State.rebase (s : State) (i : Fin 12) (m : Int) : State := s.setCell i { s.cell i with baseline := m }

/-- A stray passes the removal test: the weight that left lies within the stray's own tolerance of its unit weight (R25). -/
def strayFits (step : Int) (x : StrayRecord) : Bool := decide (magnitude (-step - x.unitWeight) ≤ x.tolerance)

/-- The youngest stray that passes the removal test, for a negative step (R25). -/
def strayToRemove (step : Int) (strays : List StrayRecord) : Option StrayRecord :=
  if step < 0 then strays.reverse.find? (strayFits step) else none

/-- A departure entry fits a rise on a cell of another article (R51). -/
def departureFits (step : Int) (code : Code) (e : Departure) : Bool :=
  e.code != code && decide (magnitude (step - e.unitWeight) ≤ e.tolerance)

/-- The entry that a stray placement takes a unit from: R30's preconditions and R51's search. -/
def State.departureToPlace (s : State) (i : Fin 12) (step : Int) : Option Departure :=
  if 0 < step ∧ s.restockingCell i = false ∧ (s.cell i).strays.length < Config.strayMax then
    youngestEntry (departureFits step (s.configOfCell i).code) s.log
  else none

/-- The stray record of a matched departure entry (R52). -/
def strayOf (e : Departure) : StrayRecord := ⟨e.code, e.unitWeight, e.tolerance, e.origin, e.serial⟩

/-- Outcome balance reversal (R24). -/
def State.reverseBalance (s : State) (i : Fin 12) (m : Int) : State :=
  s.setCell i { s.cell i with balance := 0, baseline := m }

/-- Outcome stray removal: the stray leaves, the others keep their order, and a STRAY with the event REMOVED is asked for
(R25, R55). -/
def State.removeStray (s : State) (i : Fin 12) (m step : Int) (x : StrayRecord) : State :=
  let c := s.cell i
  (s.setCell i { c with strays := (c.strays.reverse.eraseP (strayFits step)).reverse, baseline := m }).request
    (.stray false i x)

/-- The departure of a pick of so many units with the next departure serial (R28). -/
def State.ownDeparture (s : State) (i : Fin 12) (units : Nat) : Departure where
  origin := s.number
  serial := s.departureSerial + 1
  code := (s.configOfCell i).code
  unitWeight := (s.configOfCell i).unitWeight
  tolerance := (s.configOfCell i).tolerance
  units := units
  enteredAt := s.clock

/-- The departure part that carries a departure in a COUNT (R33). -/
def partOf (e : Departure) : DeparturePart :=
  ⟨BitVec.ofNat 8 e.units, BitVec.ofNat 16 e.unitWeight, BitVec.ofNat 16 e.tolerance, e.serial⟩

/-- A cell's count after an own count outcome of n units, with the clamp of R27. -/
def countAfter (count : Nat) (n : Int) : Nat := (clampInt 0 Config.countMax ((count : Int) + n)).toNat

/-- The clamp of R27 changes the sum. -/
def countClampedBy (count : Nat) (n : Int) : Bool := clampInt 0 Config.countMax ((count : Int) + n) != (count : Int) + n

/-- The cell's count, mark and baseline after an own count outcome; the line takes the new count (R27, R32). -/
def State.countUnits (s : State) (i : Fin 12) (m n : Int) : State :=
  let c := s.cell i
  (s.setCell i { c with baseline := m, countClamped := c.countClamped || countClampedBy c.count n }).setCount i
    (countAfter c.count n)

/-- Outcome own count, pick: the departure serial rises, an own entry joins the log, and a COUNT with the departure part is asked
for, even where the clamp held the count (R28, R33, R44). -/
def State.pick (s : State) (i : Fin 12) (m n : Int) : State :=
  let e := s.ownDeparture i (magnitude n).toNat
  let s' := (s.countUnits i m n).logJoin e
  { s' with departureSerial := e.serial }.requestCountOfCell i (some (partOf e))

/-- Outcome own count, return: a COUNT is asked for where the count changed (R29, R33). -/
def State.takeReturn (s : State) (i : Fin 12) (m n : Int) : State :=
  let s' := s.countUnits i m n
  if (s'.cell i).count = (s.cell i).count then s' else s'.requestCountOfCell i none

/-- Outcome stray placement: the stray joins the young end, one unit of the entry is consumed, and a STRAY with the event PLACED is
asked for (R30, R52, R55). -/
def State.placeStray (s : State) (i : Fin 12) (m step : Int) (e : Departure) : State :=
  let c := s.cell i
  ((s.setCell i { c with strays := c.strays ++ [strayOf e], baseline := m }).consumeUnit
    (departureFits step (s.configOfCell i).code)).request (.stray true i (strayOf e))

/-- Outcome doubt: the step is added to the balance, clamped (R31). -/
def State.doubt (s : State) (i : Fin 12) (m step : Int) : State :=
  let c := s.cell i
  s.setCell i { c with balance := clampInt (-Config.balanceMax) Config.balanceMax (c.balance + step), baseline := m }

/-- The balance reversal test (R24). -/
def reversalPasses (c : CellRecord) (step : Int) (tolerance : Nat) : Bool :=
  c.balance != 0 && decide (magnitude (step + c.balance) ≤ tolerance)

/-- The test sequence on a step of at least e (R23). -/
def State.testSequence (s : State) (i : Fin 12) (m step : Int) : State :=
  let c := s.cell i
  let config := s.configOfCell i
  if reversalPasses c step config.tolerance then s.reverseBalance i m
  else
    match strayToRemove step c.strays with
    | some x => s.removeStray i m step x
    | none =>
      match unitNumber step config.unitWeight config.tolerance with
      | some n => if n < 0 then s.pick i m n else s.takeReturn i m n
      | none =>
        match s.departureToPlace i step with
        | some e => s.placeStray i m step e
        | none => s.doubt i m step

/-- A recount of a cell with mean m (R36), with the COUNT it asks for where the count changed (R37). -/
def State.recountCell (s : State) (i : Fin 12) (m : Int) : State :=
  let c := s.cell i
  let config := s.configOfCell i
  let net := m - c.tray - (c.strays.map (fun x => (x.unitWeight : Int))).sum
  let k := (recountNumber net config.unitWeight).1
  let r := (recountNumber net config.unitWeight).2
  let count := (clampInt 0 Config.countMax k).toNat
  let s' := (s.setCell i { c with
    baseline := m
    balance := 0
    countClamped := clampInt 0 Config.countMax k != k
    recountInexact := decide ((config.tolerance : Int) < magnitude r) }).setCount i count
  if count = c.count then s' else s'.requestCountOfCell i none

/-- The *first rest pending* mark of a cell is cleared (R21). -/
def State.clearFirstRest (s : State) (i : Fin 12) : State := s.setCell i { s.cell i with firstRest := false }

/-- The evaluator takes an evaluation instant with mean m: a recount at the first rest, after which the line may leave JOINING;
drift below the event threshold; else the test sequence (R21, R22, R80). -/
def State.judge (s : State) (i : Fin 12) (m : Int) : State :=
  let c := s.cell i
  if c.firstRest then ((s.recountCell i m).clearFirstRest i).testJoiningOfCell i
  else if magnitude (m - c.baseline) < s.eventThreshold then s.rebase i m
  else s.testSequence i m (m - c.baseline)

/-- The cell that a RECOUNT or ZERO names: its number lies within 0 to 11 and the cell is used (R38). -/
def State.usedCell (s : State) (number : Option Nat) : Option (Fin 12) :=
  match number with
  | none => none
  | some n => if h : n < 12 then (if (s.cell ⟨n, h⟩).state = .unused then none else some ⟨n, h⟩) else none

/-- RECOUNT on the cell it names, with its result (R38). -/
def State.recountCommand (s : State) (number : Option Nat) : State × ResultCode :=
  match s.usedCell number with
  | none => (s, .noSuchCell)
  | some i =>
    if (s.cell i).state = .rest then (s.recountCell i (windowMean (s.cell i).window), .done) else (s, .notAtRest)

/-- ZERO of a cell with rest mean m (R39). -/
def State.zeroCell (s : State) (i : Fin 12) (m : Int) : State :=
  let c := s.cell i
  let s' := (s.setCell i { c with
    tray := clampInt 0 Config.trayMax m
    baseline := m
    balance := 0
    strays := []
    countClamped := false
    recountInexact := false }).setCount i 0
  if c.count = 0 then s' else s'.requestCountOfCell i none

/-- ZERO on the cell it names, with its result (R39). -/
def State.zeroCommand (s : State) (number : Option Nat) : State × ResultCode :=
  match s.usedCell number with
  | none => (s, .noSuchCell)
  | some i =>
    if (s.cell i).state = .rest then (s.zeroCell i (windowMean (s.cell i).window), .done) else (s, .notAtRest)

end Sys2Proof.Machine
end

