-- ==== Sys2Proof/Machine/Commands.lean ====
section
/-! DEFINITION. The command handler (chapter 8): article commands, station commands, the readiness check, the STATUS reply and the
pending restart. -/

namespace Sys2Proof.Machine

/-- Some line is JOINING: a station command is answered NOT-READY (R141). -/
def State.anyJoining (s : State) : Bool := !(s.linesWhere (fun a => a.state == .joining)).isEmpty

/-- The last command and the last result are set (R147). -/
def State.setLast (s : State) (command : CommandCode) (result : ResultCode) : State :=
  { s with lastCommand := some command, lastResult := some result }

/-- The reply to a station command: last command and last result, then the STATUS formed and asked for (R146, R147). -/
def State.reply (s : State) (command : CommandCode) (result : ResultCode) : State :=
  let s' := s.setLast command result
  s'.request (.status (s'.statusBody command result))

/-- A request joined the queue: it took the next age (R142). -/
def joined (before after : State) : Bool := after.nextAge != before.nextAge

/-- QUERY past the readiness check: DONE; the clear option sets the eight counters to 0 where the STATUS joined the queue (R142). -/
def State.runQuery (s : State) (clear : Bool) : State :=
  let s' := s.reply .query .done
  if clear && joined s s' then { s' with counters := .zero } else s'

/-- RECOUNT past the readiness check (R143). -/
def State.runRecount (s : State) (cell : Option Nat) : State :=
  (s.recountCommand cell).1.reply .recount (s.recountCommand cell).2

/-- ZERO past the readiness check (R143). -/
def State.runZero (s : State) (cell : Option Nat) : State :=
  (s.zeroCommand cell).1.reply .zero (s.zeroCommand cell).2

/-- RESTART past the readiness check: the STATUS is asked for and the restart pending mark names it; while a restart is pending, a
second RESTART asks for no further STATUS (R144, R145). -/
def State.runRestart (s : State) : State :=
  match s.restartPending with
  | none => { s.reply .restart .done with restartPending := some s.nextAge }
  | some _ => s.setLast .restart .done

/-- A station command that addresses this RUNNING station: the readiness check first, then the command (R139, R141). -/
def State.stationCommand (s : State) (command : CommandCode) (run : State → State) : State :=
  if s.anyJoining then s.reply command .notReady else run s

/-- The command handler takes a COMMAND (R137 to R140). An UNCONFIGURED station acts on RESTART with target 0 alone. -/
def State.takeCommand (s : State) (b : CommandBody) : State :=
  match s.station with
  | .running =>
    match commandOf b.code with
    | none => s
    | some .ack => s.articleCommand State.ackLine (payloadCodes b.payload)
    | some .restockBegin => s.articleCommand State.restockBeginLine (payloadCodes b.payload)
    | some .restockEnd => s.articleCommand State.restockEndLine (payloadCodes b.payload)
    | some .query =>
      if b.target.toNat = s.number then s.stationCommand .query (fun t => t.runQuery (b.option == 1)) else s
    | some .recount =>
      if b.target.toNat = s.number then s.stationCommand .recount (fun t => t.runRecount (payloadCell b.payload)) else s
    | some .zero =>
      if b.target.toNat = s.number then s.stationCommand .zero (fun t => t.runZero (payloadCell b.payload)) else s
    | some .restart =>
      if b.target.toNat = s.number then s.stationCommand .restart State.runRestart else s
  | .unconfigured =>
    if commandOf b.code = some .restart ∧ b.target = 0 then s.fullStart else s
  | .off | .loading | .brownout => s

end Sys2Proof.Machine
end

