-- ==== Sys2Proof/Machine/Reception.lean ====
section
/-! DEFINITION. Reception (chapters 6 and 7): carrier, idle and frame assembly, the checks of a complete frame, the hash filter, and
what taking each kind of frame does. -/

namespace Sys2Proof.Machine

/-- A falling edge on the line while the receiver is on: the quiet count is 0 and an idle line becomes busy; a character that begins
on the idle line begins a frame in assembly, a glitch forms none; the round ends unless the carrier is of this station's own making
(R107 to R109, R112). -/
def State.hearCarrier (s : State) (glitch : Bool) : State :=
  { s with
    access := { s.access with
      idle := false
      quiet := 0
      assembly := if s.access.idle then (if glitch then .waitIdle else .assembling) else s.access.assembly
      round := if s.isSending then s.access.round else none } }

/-- The receiver waits for the next idle and assembles nothing until it comes (R109, R110). -/
def State.awaitIdle (s : State) : State := { s with access := { s.access with assembly := .waitIdle } }

/-- The number of the last station heard (R111). -/
def State.setLastSender (s : State) (n : Nat) : State := { s with access := { s.access with lastSender := n } }

/-- A bad frame: counted, and the last sender is 0 (R110, R111, R127). -/
def State.badFrame (s : State) : State := s.countBad.setLastSender 0

/-- The state with a frame in assembly: the one in progress, or one whose first character begins on the idle line with its carrier;
none while the receiver is off or waits for the next idle (R109; log entry 6). -/
def State.inAssembly (s : State) : Option State :=
  if s.lineOn then
    match s.access.assembly with
    | .assembling => some s
    | .ready => some (s.hearCarrier false)
    | .waitIdle => none
  else none

/-- The frame in assembly is abandoned as bad, where there is one (R110). -/
def State.abandonFrame (s : State) : State :=
  match s.inAssembly with
  | some t => t.badFrame.awaitIdle
  | none => s

/-- A member of the neighbour set other than this station: its departures and placements are taken (R45, R46, R56). -/
def State.isNeighbour (s : State) (source : Nat) : Bool := s.neighbours.contains source && source != s.number

/-- One article code of a good frame is tested against the hash table and the lines: the line it reaches, with the counters
(R128). -/
def State.filterCode (s : State) (code : Code) : State × Option (Fin 12) :=
  if s.hashTable.getLsbD (hashIndex code) then
    match s.lineOf code with
    | some l => (s, some l)
    | none => (s.countUnknown, none)
  else (s.countFiltered, none)

/-- The departure part of a neighbour's COUNT joins the log; one of 0 units makes no entry (R46, R47, R171). -/
def State.takePart (s : State) (source : Nat) (code : Code) (part : Option DeparturePart) : State :=
  match part with
  | none => s
  | some p =>
    if s.isNeighbour source ∧ p.units.toNat ≠ 0 then
      s.logJoin ⟨source, p.serial, code, p.unitWeight.toNat, p.tolerance.toNat, p.units.toNat, s.clock⟩
    else s

/-- A good COUNT: its departure part to the log, its count part to the line its code reaches (R70, R128, R129). -/
def State.takeCount (s : State) (source : Nat) (b : CountBody) : State :=
  let s' := (s.takePart source b.code b.part).filterCode b.code
  match s'.2 with
  | some l => s'.1.lineCount l source (countField b.count) b.serial
  | none => s'.1

/-- A good ALERT (R89, R128); a source of 0 or 31 leaves every record. -/
def State.takeAlert (s : State) (source : Nat) (b : AlertBody) : State :=
  let s' := s.filterCode b.code
  match s'.2 with
  | some l =>
    if 1 ≤ source ∧ source ≤ 30 then s'.1.alertFrame l b.state.toNat b.urgency.toNat else s'.1
  | none => s'.1

/-- The entry that a STRAY names: its origin, within 1 to 30, and its departure serial (R56, R171). -/
def strayNames (b : StrayBody) (e : Departure) : Bool :=
  decide (1 ≤ b.origin.toNat) && decide (b.origin.toNat ≤ 30) && e.origin == b.origin.toNat && e.serial == b.serial

/-- A good STRAY: its code's test serves the counters alone; the event PLACED from a neighbour consumes one unit (R56, R57, R128). -/
def State.takeStray (s : State) (source : Nat) (b : StrayBody) : State :=
  let s' := (s.filterCode b.code).1
  if b.event = 0 ∧ s'.isNeighbour source then s'.consumeUnit (strayNames b) else s'

/-- One entry of a good TALLY (R76, R128). -/
def State.takeTallyEntry (s : State) (source : Nat) (e : TallyEntry) : State :=
  let s' := s.filterCode e.code
  match s'.2 with
  | some l => s'.1.lineTally l source e
  | none => s'.1

/-- A good TALLY, entry by entry in the order of the frame (R76). -/
def State.takeTally (s : State) (source : Nat) (entries : List TallyEntry) : State :=
  entries.foldl (fun t e => t.takeTallyEntry source e) s

/-- The codes of a good CENSUS tested in the order of the frame, and whether one matches a line in SOLO, LEAD or FOLLOW (R79, R128). -/
def State.filterCensus (s : State) (codes : List Code) : State × Bool :=
  codes.foldl (fun r c =>
    let s' := r.1.filterCode c
    match s'.2 with
    | some l => (s'.1, r.2 || (s'.1.line l).reports)
    | none => (s'.1, r.2)) (s, false)

/-- A good CENSUS: one TALLY is asked for where a peer's codes match a line in SOLO, LEAD or FOLLOW (R79). -/
def State.takeCensus (s : State) (source : Nat) (codes : List Code) : State :=
  let r := s.filterCensus codes
  if r.2 && isPeer s.number source then r.1.requestTally else r.1

/-- The blocks act on a good frame by its kind (R129, Table 7-1). -/
def State.act (s : State) (source : Nat) (body : Body) : State :=
  match body with
  | .alert b => s.takeAlert source b
  | .command b => s.takeCommand b
  | .count b => s.takeCount source b
  | .stray b => s.takeStray source b
  | .tally entries => s.takeTally source entries
  | .census codes => s.takeCensus source codes
  | .status _ => s
  | .fault _ => s

/-- A good frame is taken: counted, its source the last sender, and its contents handed to the blocks (R111, R127). A source above
31 is treated as 0 (R171). -/
def State.takeFrame (s : State) (f : Frame) : State :=
  (s.countTaken.setLastSender (sourceStation f.source)).act (sourceStation f.source) f.body

/-- The frame in assembly is discarded as over-length, where there is one: counted, and the last sender is 0 (R110, R111). -/
def State.discardOverLength (s : State) : State :=
  match s.inAssembly with
  | some t => (t.countOverLength.setLastSender 0).awaitIdle
  | none => s

/-- A frame comes to its end at the receiver: over-length at its header, not taken where the kind does not admit its length, else
taken; the receiver then waits for the next idle (R109, R110, R127). -/
def State.completeFrame (s : State) (f : Frame) : State :=
  if Config.bodyMax < bodyLength f.body then s.discardOverLength
  else if lengthAdmitted f.body then
    match s.inAssembly with
    | some t => t.awaitIdle.takeFrame f
    | none => s
  else s.abandonFrame

/-- A row of characters after the sync characters comes to its end: discarded at its header where that gives a body length above 80,
taken where it is a good frame, else a bad frame (R110, R127). -/
def State.completeCharacters (s : State) (characters : List Byte) : State :=
  if isOverLength characters then s.discardOverLength
  else
    match goodFrame characters with
    | some f => s.completeFrame f
    | none => s.abandonFrame

end Sys2Proof.Machine
end

