-- ==== Sys2Proof/Machine/Access.lean ====
section
/-! DEFINITION. Aisle line access (chapter 6): idle, rounds and contention slots, attempts, collisions and success, and the meanings
of the rows of the line. -/

namespace Sys2Proof.Machine

/-- The line becomes idle while the receiver is on, 20 bit times at 1 behind it: a frame still in assembly is abandoned as bad, and a
round begins. The station's own sending keeps the line from falling quiet (R108, R110, R112). -/
def State.becomeIdle (s : State) : State :=
  if s.lineOn ∧ s.access.idle = false ∧ s.isSending = false then
    let s' := if s.access.assembly = .assembling then s.badFrame else s
    { s' with
      lineLow := 0
      access := { s'.access with idle := true, quiet := Config.idleQuiet, assembly := .ready, round := some ⟨0, 0⟩ } }
  else s

/-- The offset of this station in a round: (own − last_sender − 1) counted modulo 32 (R113). -/
def State.offset (s : State) : Nat := (((s.number : Int) - s.access.lastSender - 1) % 32).toNat

/-- A frame may be sent in this station state: any kind in RUNNING, a FAULT alone in UNCONFIGURED (R119). -/
def State.maySend (s : State) (c : Content) : Bool :=
  match s.station with
  | .running => true
  | .unconfigured =>
    match c with
    | .fault .. => true
    | _ => false
  | .off | .loading | .brownout => false

/-- The frame that this station sends in a slot: the slot is its own for a class, the line is idle, it is not sending, and the frame
is the first WAITING one of that class in queue order (R113). -/
def State.slotFrame (s : State) (slot : Nat) : Option SendFrame :=
  if s.access.idle ∧ s.isSending = false ∧ slot % 32 = s.offset then
    s.queue.find? (fun f => f.isWaiting && contentClass f.content == slot / 32 && s.maySend f.content)
  else none

/-- No attempt begins in the slots from `first` up to `slot` (log entry 26). -/
def State.slotsSilent (s : State) (first slot : Nat) : Bool :=
  (List.range (slot - first)).all (fun k => (s.slotFrame (first + k)).isNone)

/-- A slot of the round begins, after slots in which this station sends nothing; an attempt begins where the slot is this station's
for a class with a WAITING frame (R112, R113). -/
def State.beginSlot (s : State) (slot : Nat) : State :=
  match s.access.round with
  | none => s
  | some r =>
    if s.lineOn ∧ r.next ≤ slot ∧ slot < Config.roundSlots ∧ s.slotsSilent r.next slot then
      let s' := { s with
        access := { s.access with round := some ⟨slot + 1, max r.elapsed (slot * Config.slotLength)⟩ } }
      match s.slotFrame slot with
      | some f => s'.beginAttempt f
      | none => s'
    else s

/-- Slot 95 ends with the line still idle: a new round begins at once (R112). -/
def State.repeatRound (s : State) : State :=
  match s.access.round with
  | none => s
  | some r =>
    if s.lineOn ∧ s.access.idle ∧ s.slotsSilent r.next Config.roundSlots then
      { s with access := { s.access with round := some ⟨0, 0⟩ } }
    else s

/-- Read-back differs from the bit being sent: the attempt fails and the *collisions* counter rises (R115, R117). -/
def State.collide (s : State) : State :=
  match s.sendingFrame with
  | none => s
  | some f => if s.lineOn then s.countCollision.failAttempt f else s

/-- The frame as it was formed for the attempt in progress. -/
def SendFrame.formed (f : SendFrame) : Option Frame :=
  match f.phase with
  | .waiting => none
  | .sending frame => some frame

/-- The last stop bit of the frame being sent reads back as 1: the quiet count is that of the 1 bits at the frame's end (R108, R118;
log entry 5). -/
def State.atLastStop (s : State) (frame : Frame) : State :=
  { s with lineLow := 0, access := { s.access with quiet := onesAtEnd frame } }

/-- The last stop bit reads back true: the frame leaves the queue and is taken here like any frame (R118). -/
def State.succeed (s : State) : State :=
  match s.sendingFrame with
  | none => s
  | some f =>
    match f.formed with
    | none => s
    | some frame => if s.lineOn then (((s.leaveQueue f.age).atLastStop frame).awaitIdle).takeFrame frame else s

/-- LINE_IDLE (R108). -/
def execLineIdle (s : State) : Host.Outcome State Fault Refusal := .next s.becomeIdle

/-- OVER_LENGTH_DISCARD (R110): the header gives a body length above 80. -/
def execOverLengthDiscard (length : Byte) (s : State) : Host.Outcome State Fault Refusal :=
  .next (if Config.bodyMax < length.toNat then s.discardOverLength else s)

/-- CONTENTION_SLOT (R113). -/
def execContentionSlot (slot : Nat) (s : State) : Host.Outcome State Fault Refusal := .next (s.beginSlot slot)

/-- ROUND_REPEAT (R112). -/
def execRoundRepeat (s : State) : Host.Outcome State Fault Refusal := .next s.repeatRound

/-- COLLISION (R115). -/
def execCollision (s : State) : Host.Outcome State Fault Refusal := .next s.collide.finish

/-- ATTEMPT_SUCCEEDED (R118). -/
def execAttemptSucceeded (s : State) : Host.Outcome State Fault Refusal := .next s.succeed.finish

/-- BAD_FRAME (R127): the checks of a complete frame decide. -/
def execBadFrame (characters : List Byte) (s : State) : Host.Outcome State Fault Refusal :=
  .next (s.completeCharacters characters).finish

/-- CARRIER (R108): the line falls to 0 for `low` bit times in every station state; the receiver hears the edge while it is on. -/
def execCarrier (low : Nat) (s : State) : Host.Outcome State Fault Refusal :=
  let s' := { s with lineLow := low }
  .next (if s.lineOn then s'.hearCarrier (low == 0) else s')

/-- FRAMING_ERROR (R110). -/
def execFramingError (s : State) : Host.Outcome State Fault Refusal := .next s.abandonFrame

/-- SYNC_MISMATCH (R110): the character differs from the sync character. -/
def execSyncMismatch (character : Byte) (s : State) : Host.Outcome State Fault Refusal :=
  .next (if character = Config.syncChar then s else s.abandonFrame)

end Sys2Proof.Machine
end

