-- ==== Sys2Proof/Machine/KeyUnit.lean ====
section
/-! DEFINITION. The staff key (R152 to R155) and the lamps (R148 to R151). -/

namespace Sys2Proof.Machine

/-- The article codes of the lines that are not VACANT and whose record is in one of some states, in line index order (R153). -/
def State.codesIn (s : State) (p : AlertState → Bool) : List Code :=
  (s.linesWhere (fun a => a.state != .vacant && p a.alert.state)).map (fun l => (s.line l).config.code)

/-- A COMMAND for a list of codes is asked for; for an empty list nothing is (R153 to R155). -/
def State.requestCommand (s : State) (command : CommandCode) (codes : List Code) : State :=
  if codes.isEmpty then s else s.request (.command command codes)

/-- A short press: RESTOCK-END of the RESTOCKING articles; where there are none, RESTOCK-BEGIN of the RAISED and HELD ones (R153). -/
def State.shortPress (s : State) : State :=
  let restocking := s.codesIn (fun x => x == .restocking)
  if restocking.isEmpty then s.requestCommand .restockBegin (s.codesIn (fun x => x == .raised || x == .held))
  else s.requestCommand .restockEnd restocking

/-- The input has read the other level for 20 ms without a break, and the key changes: the station clock stands at least 20 ms behind
the moment from which that reading can have begun, and the next reading begins (R152; log entries 1 and 16). -/
def State.settleKey (s : State) : State :=
  let s' := s.advanceTo (s.key.readFrom + Config.keySettle)
  { s' with key := { s'.key with readFrom := s'.clock } }

/-- The key becomes closed in RUNNING: a press begins, unless the unit waits for the key to be open. A closed key stays so, and in the
other states the key is not read (R152). -/
def State.closeKey (s : State) : State :=
  if s.station = .running ∧ s.key.press = none then
    let s' := s.settleKey
    if s'.key.awaitOpen then s' else { s' with key := { s'.key with press := some ⟨s'.clock, false⟩ } }
  else s

/-- A press ends: one not yet classified is short where it has lasted less than 1 s, and asks for nothing where it has lasted longer
(R152, Table 9-2). -/
def State.endPress (s : State) (p : Press) : State :=
  if p.classified = false ∧ s.clock < p.since + Config.shortPress then s.shortPress else s

/-- The key becomes open in RUNNING: the unit waits for it no longer, and a press under way ends. An open key stays so, and in the
other states the key is not read (R152). -/
def State.openKey (s : State) : State :=
  let s' := s.settleKey
  let t := { s' with key := { s'.key with awaitOpen := false, press := none } }
  if s.station = .running then
    match s.key.press with
    | some p => t.endPress p
    | none => if s.key.awaitOpen then t else s
  else s

/-- The key has been held 3 s: the press is classified long, and an ACK of the RAISED articles is asked for (R154). -/
def State.holdKey (s : State) : State :=
  match s.key.press with
  | none => s
  | some p =>
    if s.station = .running ∧ p.classified = false then
      let s' := s.advanceTo (p.since + Config.longPress)
      { s' with key := { s'.key with press := some ⟨p.since, true⟩ } }.requestCommand .ack
        (s.codesIn (fun x => x == AlertState.raised))
    else s

/-- KEY_PRESS_BEGIN (R152). -/
def execKeyPressBegin (s : State) : Host.Outcome State Fault Refusal := .next s.closeKey

/-- KEY_RELEASE (R152, R153). -/
def execKeyRelease (s : State) : Host.Outcome State Fault Refusal := .next s.openKey.finish

/-- LONG_PRESS (R154). -/
def execLongPress (s : State) : Host.Outcome State Fault Refusal := .next s.holdKey.finish

/-- The lamp patterns of Table 9-1. -/
inductive Pattern where
  | doubleFlash | fastBlink | steady | slowBlink | off
deriving DecidableEq, Repr

/-- The alert record of a cell's article; none for an UNUSED cell. -/
def State.alertOfCell (s : State) (i : Fin 12) : AlertRecord :=
  match s.lineOfCell i with
  | some l => (s.line l).alert
  | none => .blank

/-- The pattern of a used cell's lamp in RUNNING: the first row of R149's table that holds. -/
def usedPattern (c : CellRecord) (r : AlertRecord) : Pattern :=
  if c.state = .fault ∨ c.state = .unsteady ∨ c.balance ≠ 0 then .doubleFlash
  else if c.strays ≠ [] then .fastBlink
  else if (r.state = .raised ∨ r.state = .held) ∧ 2 ≤ r.urgency then .steady
  else if (r.state = .raised ∨ r.state = .held) ∧ r.urgency = 1 then .slowBlink
  else .off

/-- The pattern of a lamp: by cell and article in RUNNING, the double flash in UNCONFIGURED, off else (R149, R151). The unit keeps no
memory of its own, so the pattern is read off the records (log entry 18). -/
def State.lampPattern (s : State) (i : Fin 12) : Pattern :=
  match s.station with
  | .running => if (s.cell i).state = .unused then .off else usedPattern (s.cell i) (s.alertOfCell i)
  | .unconfigured => .doubleFlash
  | .off | .loading | .brownout => .off

/-- A position of the lamp clock lies in a stretch of Table 9-1, given in milliseconds. Both ends belong to it: ranges are inclusive at
both ends (00_scope.md, Quantities). -/
def inStretch (position first last : Nat) : Bool :=
  decide (first * Config.millisecond ≤ position) && decide (position ≤ last * Config.millisecond)

/-- Whether a pattern is lit at a position of the lamp clock, in bit times of its period (Table 9-1). -/
def Pattern.litAt (p : Pattern) (position : Nat) : Bool :=
  match p with
  | .doubleFlash => inStretch position 0 100 || inStretch position 200 300
  | .fastBlink =>
    inStretch position 0 125 || inStretch position 250 375 || inStretch position 500 625 || inStretch position 750 875
  | .steady => true
  | .slowBlink => inStretch position 0 500
  | .off => false

/-- The lamp clock: the station clock's position in its period of 1,000 ms, in bit times (R148). -/
def State.lampPosition (s : State) : Nat := s.clock % Config.lampPeriod

/-- A lamp output is lit (R148). -/
def State.lampLit (s : State) (i : Fin 12) : Bool := (s.lampPattern i).litAt s.lampPosition

end Sys2Proof.Machine
end

