-- ==== Sys2Proof/Machine/Image.lean ====
section
/-! DEFINITION. The configuration image: its fields read from the configuration memory, the checks in order, and the clamping
(R157 to R160, R172). -/

namespace Sys2Proof.Machine

/-- An article record of the image (Table 11-6). -/
structure ArticleRecord where
  code : Code
  unitWeight : Nat
  tolerance : Nat
  reorder : Nat
  margin : Nat
  reminderMinutes : Nat
  restockMinutes : Nat
deriving DecidableEq, Repr

/-- A cell record of the image (Table 11-7). -/
structure ImageCell where
  cell : Nat
  article : Nat
  zeroOffset : BitVec 24
  gain : Nat
  tray : Nat
deriving DecidableEq, Repr

/-- An image: its header and records as whole numbers (Tables 11-5 to 11-7). -/
structure Image where
  number : Nat
  places : List Nat
  eventThreshold : Nat
  settleBand : Nat
  motionLimit : Nat
  strayWindow : Nat
  articles : List ArticleRecord
  cells : List ImageCell
deriving DecidableEq, Repr

/-- How a load ends: with an image that passes every check, or with a fault code and the station number, 0 where it is not
valid (R158). -/
inductive LoadEnd where
  | passed (image : Image)
  | failed (fault : FaultCode) (number : Nat)
deriving DecidableEq, Repr

/-- Article count less 1: the high four bits of header byte 13. -/
def articleCountField (m : Memory) : Nat := Memory.u8 m 13 / 16

/-- Cell count less 1: the low four bits of header byte 13. -/
def cellCountField (m : Memory) : Nat := Memory.u8 m 13 % 16

/-- The article record at an address (Table 11-6). -/
def readArticle (m : Memory) (a : Nat) : ArticleRecord where
  code := Memory.field24 m a
  unitWeight := Memory.u16 m (a + 3)
  tolerance := Memory.u16 m (a + 5)
  reorder := Memory.u16 m (a + 7)
  margin := Memory.u16 m (a + 9)
  reminderMinutes := Memory.u8 m (a + 11)
  restockMinutes := Memory.u8 m (a + 12)

/-- The cell record at an address (Table 11-7). -/
def readCell (m : Memory) (a : Nat) : ImageCell where
  cell := Memory.u8 m a / 16
  article := Memory.u8 m a % 16
  zeroOffset := Memory.field24 m (a + 1)
  gain := Memory.u16 m (a + 4)
  tray := Memory.u16 m (a + 6)

/-- The fields of an image with these numbers of records (Tables 11-5 to 11-7, R172). -/
def readImage (m : Memory) (articles cells : Nat) : Image where
  number := Memory.u8 m 1
  places := [2, 3, 4, 5, 6, 7].map (Memory.u8 m)
  eventThreshold := Memory.u16 m 8
  settleBand := Memory.u8 m 10
  motionLimit := Memory.u8 m 11
  strayWindow := Memory.u8 m 12
  articles := (List.range articles).map (fun k => readArticle m (14 + 16 * k))
  cells := (List.range cells).map (fun k => readCell m (14 + 16 * articles + 8 * k))

/-- The CRC of the image agrees: over header and records, stored high byte first behind them (R158, R169). -/
def imageCrcAgrees (m : Memory) (articles cells : Nat) : Bool :=
  let size := 14 + 16 * articles + 8 * cells
  crc16 (Memory.bytes m 0 size) == word16 (Memory.read m size) (Memory.read m (size + 1))

/-- No value stands twice in a list. -/
def allDistinct [DecidableEq α] : List α → Bool
  | [] => true
  | x :: rest => !rest.contains x && allDistinct rest

/-- The structural checks of the records (R159). -/
def structureHolds (i : Image) : Bool :=
  i.cells.all (fun c => decide (c.cell ≤ 11))
    && allDistinct (i.cells.map ImageCell.cell)
    && i.cells.all (fun c => decide (c.article < i.articles.length))
    && allDistinct (i.articles.map ArticleRecord.code)
    && (List.range i.articles.length).all (fun k =>
      let named := (i.cells.filter (fun c => c.article == k)).length
      decide (1 ≤ named) && decide (named ≤ 4))

/-- The checks of a load whose memory answered, in their order: format mark, counts, CRC, station number, records (R158). -/
def checkImage (m : Memory) : LoadEnd :=
  if Memory.u8 m 0 ≠ Config.formatMark then .failed .imageStructure 0
  else if 11 < articleCountField m ∨ 11 < cellCountField m then .failed .imageStructure 0
  else
    let articles := articleCountField m + 1
    let cells := cellCountField m + 1
    let i := readImage m articles cells
    if !imageCrcAgrees m articles cells then .failed .imageCrc 0
    else if i.number < 1 ∨ 30 < i.number then .failed .imageStation 0
    else if !structureHolds i then .failed .imageStructure i.number
    else .passed i

/-- An article record brought into its ranges; the tolerance is clamped by the unit weight after its own clamp (R160). -/
def clampArticle (a : ArticleRecord) : ArticleRecord :=
  let u := clampNat 50 60000 a.unitWeight
  { a with
    unitWeight := u
    tolerance := clampNat 5 (u / 4) a.tolerance
    reorder := clampNat 0 9999 a.reorder
    margin := clampNat 1 999 a.margin
    restockMinutes := clampNat 5 240 a.restockMinutes }

/-- A cell record brought into its ranges; a gain of 0 becomes 1 (R160). -/
def clampCell (c : ImageCell) : ImageCell :=
  { c with
    gain := if c.gain = 0 then 1 else c.gain
    tray := clampNat 0 50000 c.tray }

/-- A checked image brought into the ranges of Table 10-2; a neighbour place of 31 or more becomes empty (R160). -/
def clampImage (i : Image) : Image :=
  { i with
    places := i.places.map (fun p => if 31 ≤ p then 0 else p)
    eventThreshold := clampNat 20 2000 i.eventThreshold
    settleBand := clampNat 2 200 i.settleBand
    motionLimit := clampNat 5 120 i.motionLimit
    strayWindow := clampNat 1 60 i.strayWindow
    articles := i.articles.map clampArticle
    cells := i.cells.map clampCell }

/-- The image-clamped flag: set where a value lay outside its range (R160). -/
def imageClampedBy (i : Image) : Bool := clampImage i != i

end Sys2Proof.Machine
end

