-- ==== Sys2Proof/Machine/Weighing.lean ====
section
/-! DEFINITION. The weighing front end (chapter 1): conversions, warm-up, rest, motion, unsteadiness and bridge faults, and the
meanings of the five conversion rows. -/

namespace Sys2Proof.Machine

/-- A cell enters WARMING with so many conversions (R9). -/
def CellRecord.warm (c : CellRecord) (conversions : Nat) : CellRecord :=
  { c with state := .warming, window := [], saturated := false, faultRun := 0, motionCount := 0, warmUp := conversions }

/-- A cell enters FAULT (R15). -/
def CellRecord.enterFault (c : CellRecord) : CellRecord :=
  { c with state := .fault, window := [], saturated := false, faultRun := 0, motionCount := 0, warmUp := 0 }

/-- The fault run after a code, for a cell that is weighed (R15). -/
def runAfter (run : Nat) (code : Conversion) : Nat := if inRange code then 0 else run + 1

/-- A conversion of a cell in FAULT: the recovery run (R16). -/
def CellRecord.recover (c : CellRecord) (code : Conversion) : CellRecord :=
  if inRange code then
    if Config.faultRunLimit ≤ c.faultRun + 1 then c.warm Config.warmUpShort else { c with faultRun := c.faultRun + 1 }
  else { c with faultRun := 0 }

/-- What the code appends to the window of a weighed cell, with the saturated mark and the fault run (R5, R8, R15). -/
def CellRecord.append (c : CellRecord) (code : Conversion) : CellRecord :=
  let w := appendSample c.window (sampleOf code c.zeroOffset c.gain)
  { c with window := w, saturated := w.any Sample.saturated, faultRun := runAfter c.faultRun code }

/-- The bridge fault of a cell: it enters FAULT, a FAULT frame with CELL-FAULT is asked for, and its line may leave JOINING
(R15, R80). -/
def State.bridgeFault (s : State) (i : Fin 12) : State :=
  ((s.setCell i (s.cell i).enterFault).request (.fault .cellFault (some i))).testJoiningOfCell i

/-- The cell enters REST, an entry instant with the mean of its window (R13). -/
def State.enterRest (s : State) (i : Fin 12) : State :=
  (s.setCell i { s.cell i with state := .rest }).judge i (windowMean (s.cell i).window)

/-- The cell enters MOTION with a motion count of 0 (R9, R10). -/
def State.enterMotion (s : State) (i : Fin 12) : State :=
  s.setCell i { s.cell i with state := .motion, motionCount := 0 }

/-- The window test after a conversion has been appended, by cell state (R9 to R13). -/
def State.testWindow (s : State) (i : Fin 12) : State :=
  let c := s.cell i
  let rests := settled s.settleBand c.window
  match c.state with
  | .warming =>
    if 1 < c.warmUp then s.setCell i { c with warmUp := c.warmUp - 1 }
    else
      let s' := s.setCell i { c with warmUp := 0 }
      if rests then s'.enterRest i else s'.enterMotion i
  | .rest =>
    if rests then
      if s.eventThreshold ≤ magnitude (windowMean c.window - c.baseline) then s.judge i (windowMean c.window) else s
    else s.enterMotion i
  | .motion =>
    if rests then s.enterRest i
    else if c.motionCount + 1 = 10 * s.motionLimit then
      s.setCell i { c with motionCount := c.motionCount + 1, state := .unsteady }
    else s.setCell i { c with motionCount := c.motionCount + 1 }
  | .unsteady => if rests then s.enterRest i else s
  | .unused | .fault => s

/-- A conversion of one cell, by its state (R2, R15 to R17). -/
def State.convertCell (s : State) (i : Fin 12) (code : Conversion) : State :=
  let c := s.cell i
  match c.state with
  | .unused => s
  | .fault => s.setCell i (c.recover code)
  | .warming | .motion | .rest | .unsteady =>
    let s' := s.setCell i (c.append code)
    if Config.faultRunLimit ≤ runAfter c.faultRun code then s'.bridgeFault i else s'.testWindow i

/-- A conversion completes at the next place of the rotation, in RUNNING; the rotation moves on to the next input (R1). -/
def State.convert (s : State) (code : Conversion) : State :=
  if s.station = .running then { s.convertCell s.rotation code with rotation := s.rotation + 1 } else s

/-- The conversion, where it takes the cell from one of these states into one of those; any other conversion is not this event
(log entry 4). -/
def State.convertInto (s : State) (code : Conversion) (was becomes : CellState → Bool) : State :=
  let s' := s.convert code
  if s.station = .running ∧ was (s.cell s.rotation).state ∧ becomes (s'.cell s.rotation).state then s'.finish else s

/-- CONVERSION (R1). -/
def execConversion (code : Conversion) (s : State) : Host.Outcome State Fault Refusal := .next (s.convert code).finish

/-- WARM_UP_END (R9): the conversion that takes a cell from WARMING into REST or MOTION. -/
def execWarmUpEnd (code : Conversion) (s : State) : Host.Outcome State Fault Refusal :=
  .next (s.convertInto code (· == .warming) (fun x => x == .rest || x == .motion))

/-- ENTER_UNSTEADY (R11): the conversion that takes a cell from MOTION into UNSTEADY. -/
def execEnterUnsteady (code : Conversion) (s : State) : Host.Outcome State Fault Refusal :=
  .next (s.convertInto code (· == .motion) (· == .unsteady))

/-- ENTER_FAULT (R15): the conversion that takes a weighed cell into FAULT. -/
def execEnterFault (code : Conversion) (s : State) : Host.Outcome State Fault Refusal :=
  .next (s.convertInto code (fun x => x != .fault && x != .unused) (· == .fault))

/-- LEAVE_FAULT (R16): the conversion that takes a cell from FAULT into WARMING. -/
def execLeaveFault (code : Conversion) (s : State) : Host.Outcome State Fault Refusal :=
  .next (s.convertInto code (· == .fault) (· == .warming))

end Sys2Proof.Machine
end

