-- ==== Sys2Proof/Machine/StartUp.lean ====
section
/-! DEFINITION. Start-up and supply (chapter 10): the end of a load, building the station, UNCONFIGURED, the supply monitor and
BROWNOUT, and the meanings of their rows. -/

namespace Sys2Proof.Machine

/-- The image loader addresses the memory from the start (R157). -/
def Loader.start : Loader := ⟨0, 0, false⟩

/-- Entry to UNCONFIGURED: the clock starts from 0, the receiver is turned on, and a FAULT frame with the fault code of the load and
no cell is asked for; the own number is the station number where that is valid (R162). -/
def State.enterUnconfigured (s : State) (fault : FaultCode) (number : Nat) : State :=
  ({ s with
    station := .unconfigured
    number := number
    clock := 0
    faultAt := Config.minute
    loadFault := some fault
    access := .blank }).request (.fault fault none)

/-- The cell record that the image gives an input: WARMING with 32 conversions and the *first rest pending* mark where a cell record
names it, UNUSED where none does (R17, R20, R161). -/
def imageCellRecord (i : Image) (input : Fin 12) : CellRecord :=
  match i.cells.find? (fun c => c.cell == input.val) with
  | none => .blank
  | some c =>
    { CellRecord.blank with
      state := .warming
      line := if h : c.article < 12 then some ⟨c.article, h⟩ else none
      zeroOffset := c.zeroOffset
      gain := c.gain
      tray := c.tray
      warmUp := Config.warmUpStart
      firstRest := true }

/-- The cells that name an article record, in rising order of cell number (R161). -/
def cellsOfArticle (i : Image) (article : Nat) : List (Fin 12) :=
  allTwelve.filter (fun k => i.cells.any (fun c => c.cell == k.val && c.article == article))

/-- The article line that the image gives a line index: JOINING where there is an article record, VACANT where there is none
(R61, R161). -/
def imageLine (i : Image) (l : Fin 12) : ArticleLine :=
  match i.articles[l.val]? with
  | none => .blank
  | some a =>
    { ArticleLine.blank with
      config := ⟨a.code, a.unitWeight, a.tolerance, a.reorder, a.margin, a.reminderMinutes, a.restockMinutes,
        cellsOfArticle i l.val⟩
      state := .joining }

/-- The hash table of some article codes: the bit of each code's index is set (R161). -/
def hashOf (codes : List Code) : BitVec 64 := codes.foldl (fun h c => h ||| (1#64 <<< hashIndex c)) 0#64

/-- The station built from a clamped image, and its entry to RUNNING with the CENSUS asked for (R161, R163). -/
def State.enterRunning (s : State) (i : Image) (clamped : Bool) : State :=
  ({ s with
    station := .running
    number := i.number
    neighbours := i.places.filter (fun p => p != 0)
    eventThreshold := i.eventThreshold
    settleBand := i.settleBand
    motionLimit := i.motionLimit
    strayWindow := i.strayWindow
    imageClamped := clamped
    hashTable := hashOf (i.articles.map ArticleRecord.code)
    clock := 0
    tallyAt := i.number * Config.tallyStep
    rotation := 0
    cells := Vector.ofFn (imageCellRecord i)
    lines := Vector.ofFn (imageLine i)
    census := .queued
    access := .blank
    key := ⟨true, 0, none⟩ }).request
      (.census (i.articles.map ArticleRecord.code))

/-- The load ends: the checks decide between UNCONFIGURED and RUNNING (R156, R158, R160). -/
def State.endLoad (s : State) : State :=
  match checkImage s.eeprom with
  | .failed fault number => s.enterUnconfigured fault number
  | .passed i => s.enterRunning (clampImage i) (imageClampedBy i)

/-- A load is in progress: the station is in LOADING and low supply has not abandoned it (R157). -/
def State.loadRuns (s : State) : Bool := s.station == .loading && !s.loader.abandoned

/-- The memory does not answer an addressing while the read stands at a byte. Where it has answered one since the failure before, as
it has where the read stands at another byte, the run begins again; the third failure in a row ends the load (R157; log entry 9). -/
def State.noAnswer (s : State) (x : Silence) : State :=
  if s.loadRuns then
    let run := if x.answered = false ∧ x.position = s.loader.position then s.loader.noAnswers + 1 else 1
    if 3 ≤ run then s.enterUnconfigured .eepromSilent 0 else { s with loader := ⟨run, x.position, false⟩ }
  else s

/-- The run counts after a sample: each holds at 2, and the other becomes 0 (R165). -/
def Supply.after (p : Supply) (low : Bool) : Supply :=
  if low then ⟨min 2 (p.lowRun + 1), 0⟩ else ⟨0, min 2 (p.goodRun + 1)⟩

/-- A frame being sent is cut: where the receiver still has it in assembly it is abandoned there as a bad frame, and its attempt
fails, without a collision (R110, R120). -/
def State.cutFrame (s : State) : State :=
  match s.sendingFrame with
  | some f => (if s.access.assembly = .assembling then s.countBad else s).failAttempt f
  | none => s

/-- Entry to BROWNOUT: a frame being sent is cut, a frame being received is discarded uncounted, the receiver is off with the last sender
kept, a press is abandoned, and the low run count is 0; everything else keeps its contents (R110, R120, R165). DESIGN CHOICE: a cut frame
is counted as bad at the entry itself, and the last sender is kept behind it, as R120 and R165 say, and not set to 0 by R111 (log
entry 31). -/
def State.enterBrownout (s : State) : State :=
  let s' := s.cutFrame
  { s' with
    station := .brownout
    access := { LineAccess.blank with lastSender := s'.access.lastSender }
    key := { s'.key with press := none }
    supply := { s'.supply with lowRun := 0 } }

/-- A used cell enters WARMING with 8 conversions at the return from BROWNOUT; an UNUSED cell stays so (R19). -/
def CellRecord.afterBrownout (c : CellRecord) : CellRecord :=
  if c.state = .unused then c else c.warm Config.warmUpShort

/-- Return from BROWNOUT to RUNNING (R19, R152, R167). -/
def State.leaveBrownout (s : State) : State :=
  { s with
    station := .running
    cells := s.cells.map CellRecord.afterBrownout
    access := .blank
    key := ⟨true, s.clock, none⟩
    supply := { s.supply with goodRun := 0 } }

/-- A sample of the supply (R157, R165, R167). Without supply none is taken. -/
def State.sampleSupply (s : State) (low : Bool) : State :=
  let after := s.supply.after low
  let s' := { s with supply := after }
  let lowSecond := decide (after.lowRun = 2 ∧ s.supply.lowRun < 2)
  let goodSecond := decide (after.goodRun = 2 ∧ s.supply.goodRun < 2)
  match s.station with
  | .off => s
  | .unconfigured => s'
  | .running => if lowSecond then s'.enterBrownout else s'
  | .brownout => if goodSecond then s'.leaveBrownout else s'
  | .loading =>
    if lowSecond then { s' with loader := { s'.loader with abandoned := true } }
    else if goodSecond ∧ s.loader.abandoned then { s' with loader := .start }
    else s'

/-- The next whole minute of an unconfigured station: a further FAULT frame with the fault code of its load (R162). -/
def State.faultMinute (s : State) : State :=
  match s.station, s.loadFault with
  | .unconfigured, some fault =>
    ({ s.advanceTo s.faultAt with faultAt := s.faultAt + Config.minute }).request (.fault fault none)
  | _, _ => s

/-- POWER_ON (R168). -/
def execPowerOn (s : State) : Host.Outcome State Fault Refusal := .next s.fullStart

/-- EEPROM_NO_ANSWER (R157). -/
def execEepromNoAnswer (silence : Silence) (s : State) : Host.Outcome State Fault Refusal := .next (s.noAnswer silence)

/-- IMAGE_LOAD_END (R158): the memory as it has been read, and the end of the load. -/
def execImageLoadEnd (image : List Byte) (s : State) : Host.Outcome State Fault Refusal :=
  .next (if s.loadRuns then { s with eeprom := Memory.ofBytes image }.endLoad else s)

/-- UNCONFIGURED_FAULT_MINUTE (R162). -/
def execUnconfiguredFaultMinute (s : State) : Host.Outcome State Fault Refusal := .next s.faultMinute

/-- SUPPLY_SAMPLE (R165). -/
def execSupplySample (low : Bool) (s : State) : Host.Outcome State Fault Refusal := .next (s.sampleSupply low).finish

/-- SUPPLY_FAILURE (R156): every station state ends; nothing but the configuration memory outlives it (log entry 10). -/
def execSupplyFailure (s : State) : Host.Outcome State Fault Refusal := .next { s.fullStart with station := .off }

end Sys2Proof.Machine
end

