-- ==== Sys2Proof/Machine/Taken.lean ====
section
/-! DEFINITION. The meanings of the rows of complete frames: COUNT, ALERT, STRAY, TALLY, CENSUS, STATUS and FAULT, and the COMMAND
frames by their code (chapters 7 and 8). -/

namespace Sys2Proof.Machine

/-- COUNT_TAKEN (R70). -/
def execCountTaken (source : Byte) (body : CountBody) (s : State) : Host.Outcome State Fault Refusal :=
  .next (s.completeFrame ⟨source, .count body⟩).finish

/-- ALERT_TAKEN (R89). -/
def execAlertTaken (source : Byte) (body : AlertBody) (s : State) : Host.Outcome State Fault Refusal :=
  .next (s.completeFrame ⟨source, .alert body⟩).finish

/-- STRAY_TAKEN (R56). -/
def execStrayTaken (source : Byte) (body : StrayBody) (s : State) : Host.Outcome State Fault Refusal :=
  .next (s.completeFrame ⟨source, .stray body⟩).finish

/-- TALLY_TAKEN (R76). -/
def execTallyTaken (source : Byte) (entries : List TallyEntry) (s : State) : Host.Outcome State Fault Refusal :=
  .next (s.completeFrame ⟨source, .tally entries⟩).finish

/-- CENSUS_TAKEN (R79). -/
def execCensusTaken (source : Byte) (codes : List Code) (s : State) : Host.Outcome State Fault Refusal :=
  .next (s.completeFrame ⟨source, .census codes⟩).finish

/-- STATUS_TAKEN (R129). -/
def execStatusTaken (source : Byte) (body : StatusBody) (s : State) : Host.Outcome State Fault Refusal :=
  .next (s.completeFrame ⟨source, .status body⟩).finish

/-- FAULT_TAKEN (R129). -/
def execFaultTaken (source : Byte) (body : FaultBody) (s : State) : Host.Outcome State Fault Refusal :=
  .next (s.completeFrame ⟨source, .fault body⟩).finish

/-- A COMMAND frame with this code. -/
def commandFrame (source target code option : Byte) (payload : Payload) : Frame :=
  ⟨source, .command ⟨target, code, option, payload⟩⟩

/-- ACK (R101). -/
def execAck (source target option : Byte) (payload : Payload) (s : State) : Host.Outcome State Fault Refusal :=
  .next (s.completeFrame (commandFrame source target CommandCode.ack.value option payload)).finish

/-- RESTOCK_BEGIN (R102). -/
def execRestockBegin (source target option : Byte) (payload : Payload) (s : State) : Host.Outcome State Fault Refusal :=
  .next (s.completeFrame (commandFrame source target CommandCode.restockBegin.value option payload)).finish

/-- RESTOCK_END (R103). -/
def execRestockEnd (source target option : Byte) (payload : Payload) (s : State) : Host.Outcome State Fault Refusal :=
  .next (s.completeFrame (commandFrame source target CommandCode.restockEnd.value option payload)).finish

/-- QUERY (R142). -/
def execQuery (source target option : Byte) (payload : Payload) (s : State) : Host.Outcome State Fault Refusal :=
  .next (s.completeFrame (commandFrame source target CommandCode.query.value option payload)).finish

/-- RECOUNT (R38, R143). -/
def execRecount (source target option : Byte) (payload : Payload) (s : State) : Host.Outcome State Fault Refusal :=
  .next (s.completeFrame (commandFrame source target CommandCode.recount.value option payload)).finish

/-- ZERO (R39, R143). -/
def execZero (source target option : Byte) (payload : Payload) (s : State) : Host.Outcome State Fault Refusal :=
  .next (s.completeFrame (commandFrame source target CommandCode.zero.value option payload)).finish

/-- RESTART (R140, R144). -/
def execRestart (source target option : Byte) (payload : Payload) (s : State) : Host.Outcome State Fault Refusal :=
  .next (s.completeFrame (commandFrame source target CommandCode.restart.value option payload)).finish

/-- UNKNOWN_COMMAND_CODE (R137). -/
def execUnknownCommandCode (source target code option : Byte) (payload : Payload) (s : State) :
    Host.Outcome State Fault Refusal :=
  .next (s.completeFrame (commandFrame source target code option payload)).finish

end Sys2Proof.Machine
end

