-- ==== Sys2Proof/Machine/Timers.lean ====
section
/-! DEFINITION. The moments of the station clock: expiries of the log, of the lines' timers and of the census, and the TALLY phase.
A command that names such a moment moves the station clock on to it, where the timed thing runs; where it does not run, the moment
does not come (log entries 1 and 3). -/

namespace Sys2Proof.Machine

/-- The moment at which a departure entry expires (R49). -/
def State.expiryOf (s : State) (e : Departure) : Nat := e.enteredAt + s.strayWindow * Config.minute

/-- The oldest entry expires: all entries live as long, so the oldest is the first (R49). -/
def State.expireOldest (s : State) : State :=
  match s.log with
  | [] => s
  | e :: rest => if s.timersRun then { s.advanceTo (s.expiryOf e) with log := rest } else s

/-- The census window ends and each line tests its conditions, in line index order (R80, R164). -/
def State.endCensusWindow (s : State) : State :=
  match s.census with
  | .window since =>
    if s.timersRun then
      let s' := s.advanceTo (since + Config.censusWindow)
      allTwelve.foldl State.testJoining { s' with census := .ended s'.clock }
    else s
  | _ => s

/-- A line that is JOINING leaves it. -/
def State.leaveIfJoining (s : State) (l : Fin 12) : State := if (s.line l).state = .joining then s.leaveJoining l else s

/-- 60 s after the end of the census window every line that is still JOINING leaves it, in line index order (R80). -/
def State.endJoining (s : State) : State :=
  match s.census with
  | .ended moment =>
    if s.timersRun ∧ (s.linesWhere (fun a => a.state == .joining)).isEmpty = false then
      allTwelve.foldl State.leaveIfJoining (s.advanceTo (moment + Config.joiningLimit))
    else s
  | _ => s

/-- The station's phase of the minute: the TALLY request first, then the minute evaluations (R75, R99). -/
def State.reachTallyPhase (s : State) : State :=
  if s.timersRun then
    ({ s.advanceTo s.tallyAt with tallyAt := s.tallyAt + Config.minute }.requestTally).minuteEvaluations
  else s

/-- An entry that is not stale reaches 180 s of silence (R65, R82). -/
def State.reachStale (s : State) (l : Fin 12) (peer : Nat) : State :=
  match (s.line l).entry peer with
  | none => s
  | some e =>
    if s.timersRun ∧ e.stale = false then (s.advanceTo (e.heardAt + Config.staleAfter)).markStale l peer else s

/-- A stale entry reaches 600 s of silence (R85). -/
def State.reachRemoved (s : State) (l : Fin 12) (peer : Nat) : State :=
  match (s.line l).entry peer with
  | none => s
  | some e =>
    if s.timersRun ∧ e.stale = true then (s.advanceTo (e.heardAt + Config.removedAfter)).dropEntry l peer else s

/-- The lead timer reaches 180 s: a lead without an entry is lost; for a lead with an entry, R82 acts (R83). -/
def State.leadTimerEnd (s : State) (l : Fin 12) : State :=
  match (s.line l).leadSince with
  | none => s
  | some since =>
    if s.timersRun then
      let s' := s.advanceTo (since + Config.staleAfter)
      if ((s.line l).entry (s.line l).lead).isSome then s'.markStale l (s.line l).lead else s'.loseLead l
    else s

/-- The claim timer expires: a FOLLOW line without a lead asks for a claim-only COUNT (R84). -/
def State.claimTimerEnd (s : State) (l : Fin 12) : State :=
  match (s.line l).claimSince with
  | none => s
  | some since =>
    if s.timersRun then
      let s' := (s.advanceTo (since + s.number * Config.claimStep)).setLine l { s.line l with claimSince := none }
      if (s.line l).state = .follow ∧ (s.line l).lead = 0 then s'.requestCount l true none else s'
    else s

/-- The start hold ends and the line is handed an evaluation (R95). -/
def State.startHoldEnd (s : State) (l : Fin 12) : State :=
  match (s.line l).holdSince with
  | none => s
  | some since =>
    if s.timersRun then
      ((s.advanceTo (since + Config.startHold)).setLine l { s.line l with holdSince := none }).evaluate l
    else s

/-- The reminder timer reaches the reminder interval: the flag is set, the timer restarts, an evaluation is handed (R98). -/
def State.reminderEnd (s : State) (l : Fin 12) : State :=
  match (s.line l).alert.reminderSince with
  | none => s
  | some since =>
    if s.timersRun then
      let s' := s.advanceTo (since + (s.line l).config.reminderMinutes * Config.minute)
      (s'.setAlert l { (s.line l).alert with reminderDue := true, reminderSince := some s'.clock }).evaluate l
    else s

/-- The restock timer reaches the restock limit: the period ends as by RESTOCK-END (R104). -/
def State.restockTimerEnd (s : State) (l : Fin 12) : State :=
  match (s.line l).alert.restockSince with
  | none => s
  | some since =>
    if s.timersRun then (s.advanceTo (since + (s.line l).config.restockMinutes * Config.minute)).endRestock l else s

/-- DEPARTURE_EXPIRY (R49). -/
def execDepartureExpiry (s : State) : Host.Outcome State Fault Refusal := .next s.expireOldest

/-- CENSUS_WINDOW_END (R164). -/
def execCensusWindowEnd (s : State) : Host.Outcome State Fault Refusal := .next s.endCensusWindow.finish

/-- JOINING_LIMIT (R80). -/
def execJoiningLimit (s : State) : Host.Outcome State Fault Refusal := .next s.endJoining.finish

/-- TALLY_PHASE (R75). -/
def execTallyPhase (s : State) : Host.Outcome State Fault Refusal := .next s.reachTallyPhase.finish

/-- ENTRY_STALE (R82). -/
def execEntryStale (line : Fin 12) (peer : Nat) (s : State) : Host.Outcome State Fault Refusal :=
  .next (s.reachStale line peer)

/-- ENTRY_REMOVED (R85). -/
def execEntryRemoved (line : Fin 12) (peer : Nat) (s : State) : Host.Outcome State Fault Refusal :=
  .next (s.reachRemoved line peer).finish

/-- LEAD_TIMER_EXPIRY (R83). -/
def execLeadTimerExpiry (line : Fin 12) (s : State) : Host.Outcome State Fault Refusal := .next (s.leadTimerEnd line)

/-- CLAIM_TIMER_EXPIRY (R84). -/
def execClaimTimerExpiry (line : Fin 12) (s : State) : Host.Outcome State Fault Refusal :=
  .next (s.claimTimerEnd line).finish

/-- START_HOLD_EXPIRY (R95). -/
def execStartHoldExpiry (line : Fin 12) (s : State) : Host.Outcome State Fault Refusal := .next (s.startHoldEnd line).finish

/-- REMINDER_TIMER_EXPIRY (R98). -/
def execReminderTimerExpiry (line : Fin 12) (s : State) : Host.Outcome State Fault Refusal := .next (s.reminderEnd line).finish

/-- RESTOCK_TIMER_EXPIRY (R104). -/
def execRestockTimerExpiry (line : Fin 12) (s : State) : Host.Outcome State Fault Refusal :=
  .next (s.restockTimerEnd line).finish

end Sys2Proof.Machine
end

