-- ==== Sys2Proof/Machine/Dispatch.lean ====
section
/-! DEFINITION. One arm per command: each a direct call of the command's meaning. -/

namespace Sys2Proof.Machine

def exec (i : Instr) (s : State) : Host.Outcome State Fault Refusal :=
  match i with
  | .powerOn => Sys2Proof.Machine.execPowerOn s
  | .eepromNoAnswer silence => Sys2Proof.Machine.execEepromNoAnswer silence s
  | .imageLoadEnd image => Sys2Proof.Machine.execImageLoadEnd image s
  | .unconfiguredFaultMinute => Sys2Proof.Machine.execUnconfiguredFaultMinute s
  | .supplySample low => Sys2Proof.Machine.execSupplySample low s
  | .conversion code => Sys2Proof.Machine.execConversion code s
  | .warmUpEnd code => Sys2Proof.Machine.execWarmUpEnd code s
  | .enterUnsteady code => Sys2Proof.Machine.execEnterUnsteady code s
  | .enterFault code => Sys2Proof.Machine.execEnterFault code s
  | .leaveFault code => Sys2Proof.Machine.execLeaveFault code s
  | .departureExpiry => Sys2Proof.Machine.execDepartureExpiry s
  | .lineIdle => Sys2Proof.Machine.execLineIdle s
  | .overLengthDiscard length => Sys2Proof.Machine.execOverLengthDiscard length s
  | .contentionSlot slot => Sys2Proof.Machine.execContentionSlot slot s
  | .roundRepeat => Sys2Proof.Machine.execRoundRepeat s
  | .collision => Sys2Proof.Machine.execCollision s
  | .attemptSucceeded => Sys2Proof.Machine.execAttemptSucceeded s
  | .badFrame characters => Sys2Proof.Machine.execBadFrame characters s
  | .countTaken source body => Sys2Proof.Machine.execCountTaken source body s
  | .alertTaken source body => Sys2Proof.Machine.execAlertTaken source body s
  | .strayTaken source body => Sys2Proof.Machine.execStrayTaken source body s
  | .tallyTaken source entries => Sys2Proof.Machine.execTallyTaken source entries s
  | .censusTaken source codes => Sys2Proof.Machine.execCensusTaken source codes s
  | .statusTaken source body => Sys2Proof.Machine.execStatusTaken source body s
  | .faultTaken source body => Sys2Proof.Machine.execFaultTaken source body s
  | .ack source target option payload => Sys2Proof.Machine.execAck source target option payload s
  | .restockBegin source target option payload => Sys2Proof.Machine.execRestockBegin source target option payload s
  | .restockEnd source target option payload => Sys2Proof.Machine.execRestockEnd source target option payload s
  | .query source target option payload => Sys2Proof.Machine.execQuery source target option payload s
  | .recount source target option payload => Sys2Proof.Machine.execRecount source target option payload s
  | .zero source target option payload => Sys2Proof.Machine.execZero source target option payload s
  | .restart source target option payload => Sys2Proof.Machine.execRestart source target option payload s
  | .censusWindowEnd => Sys2Proof.Machine.execCensusWindowEnd s
  | .joiningLimit => Sys2Proof.Machine.execJoiningLimit s
  | .tallyPhase => Sys2Proof.Machine.execTallyPhase s
  | .entryStale line peer => Sys2Proof.Machine.execEntryStale line peer s
  | .entryRemoved line peer => Sys2Proof.Machine.execEntryRemoved line peer s
  | .leadTimerExpiry line => Sys2Proof.Machine.execLeadTimerExpiry line s
  | .claimTimerExpiry line => Sys2Proof.Machine.execClaimTimerExpiry line s
  | .startHoldExpiry line => Sys2Proof.Machine.execStartHoldExpiry line s
  | .reminderTimerExpiry line => Sys2Proof.Machine.execReminderTimerExpiry line s
  | .restockTimerExpiry line => Sys2Proof.Machine.execRestockTimerExpiry line s
  | .keyPressBegin => Sys2Proof.Machine.execKeyPressBegin s
  | .keyRelease => Sys2Proof.Machine.execKeyRelease s
  | .longPress => Sys2Proof.Machine.execLongPress s
  | .carrier low => Sys2Proof.Machine.execCarrier low s
  | .framingError => Sys2Proof.Machine.execFramingError s
  | .syncMismatch character => Sys2Proof.Machine.execSyncMismatch character s
  | .unknownCommandCode source target code option payload => Sys2Proof.Machine.execUnknownCommandCode source target code option payload s
  | .supplyFailure => Sys2Proof.Machine.execSupplyFailure s

end Sys2Proof.Machine
end

