-- ==== Sys2Proof/Machine/Clock.lean ====
section
/-! DEFINITION. One bit time of the station on its own: what its clocks do while no command waits, and which moments have come
(log entry 2). -/

namespace Sys2Proof.Machine

/-- The station clock runs in UNCONFIGURED, RUNNING and BROWNOUT (R156). -/
def State.clockRuns (s : State) : Bool := s.lineOn || s.timersRun

/-- The quiet count after one more bit time: it counts the bit times at 1 of a busy line, up to 20, and none of those at 0; while the
station sends, its own characters keep the line from falling quiet (R108; log entry 5). -/
def State.quietAfter (s : State) : Nat :=
  if s.lineOn ∧ s.access.idle = false ∧ s.isSending = false ∧ s.lineLow = 0 then min Config.idleQuiet (s.access.quiet + 1)
  else s.access.quiet

/-- One bit time passes: the station clock where it runs, the line's time at 0, the quiet count and the round in progress count it. -/
def State.passBitTime (s : State) : State :=
  { s with
    clock := if s.clockRuns then s.clock + 1 else s.clock
    lineLow := s.lineLow - 1
    access := { s.access with
      quiet := s.quietAfter
      round := s.access.round.map (fun r => { r with elapsed := r.elapsed + 1 }) } }

/-- A command, where its moment has come. -/
def dueIf (c : Bool) (i : Instr) : List Instr := if c then [i] else []

/-- A timer started at a moment has run so long. -/
def State.ranFor (s : State) (since : Option Nat) (length : Nat) : Bool :=
  match since with
  | none => false
  | some t => decide (t + length ≤ s.clock)

/-- The events of the line that have come due: idle, the next slot of a round, the end of slot 95 (R108, R112). -/
def State.dueOfLine (s : State) : List Instr :=
  dueIf (!s.access.idle && !s.isSending && decide (Config.idleQuiet ≤ s.access.quiet)) .lineIdle ++
    (match s.access.round with
      | none => []
      | some r =>
        dueIf (decide (r.next < Config.roundSlots) && decide (r.next * Config.slotLength ≤ r.elapsed)) (.contentionSlot r.next) ++
          dueIf (s.access.idle && decide (Config.roundSlots ≤ r.next) &&
            decide (Config.roundSlots * Config.slotLength ≤ r.elapsed)) .roundRepeat)

/-- The timers of one article line that have come due. -/
def State.dueOfArticle (s : State) (l : Fin 12) : List Instr :=
  let a := s.line l
  a.map.flatMap (fun e =>
      dueIf (!e.stale && s.ranFor (some e.heardAt) Config.staleAfter) (.entryStale l e.station) ++
        dueIf (e.stale && s.ranFor (some e.heardAt) Config.removedAfter) (.entryRemoved l e.station)) ++
    dueIf (s.ranFor a.leadSince Config.staleAfter) (.leadTimerExpiry l) ++
    dueIf (s.ranFor a.claimSince (s.number * Config.claimStep)) (.claimTimerExpiry l) ++
    dueIf (s.ranFor a.holdSince Config.startHold) (.startHoldExpiry l) ++
    dueIf (s.ranFor a.alert.reminderSince (a.config.reminderMinutes * Config.minute)) (.reminderTimerExpiry l) ++
    dueIf (s.ranFor a.alert.restockSince (a.config.restockMinutes * Config.minute)) (.restockTimerExpiry l)

/-- The moments of the census that have come: the end of the window, and the limit while a line is JOINING (R80, R164). -/
def State.dueOfCensus (s : State) : List Instr :=
  match s.census with
  | .window since => dueIf (s.ranFor (some since) Config.censusWindow) .censusWindowEnd
  | .ended moment => dueIf (s.anyJoining && s.ranFor (some moment) Config.joiningLimit) .joiningLimit
  | .none | .queued => []

/-- The key has been held 3 s (R154). -/
def State.dueOfKey (s : State) : List Instr :=
  match s.key.press with
  | some p => dueIf (s.station == .running && !p.classified && s.ranFor (some p.since) Config.longPress) .longPress
  | none => []

/-- The commands whose moment has come. The spec leaves open which of several events of one moment comes first; they stand here in
the order of their blocks (log entry 2). -/
def State.due (s : State) : List Instr :=
  dueIf (s.station == .unconfigured && s.loadFault.isSome && decide (s.faultAt ≤ s.clock)) .unconfiguredFaultMinute ++
    (if s.lineOn then s.dueOfLine else []) ++
    (if s.timersRun then
      (s.log.filter (fun e => decide (s.expiryOf e ≤ s.clock))).map (fun _ => .departureExpiry) ++
        s.dueOfCensus ++ dueIf (decide (s.tallyAt ≤ s.clock)) .tallyPhase ++ allTwelve.flatMap s.dueOfArticle ++ s.dueOfKey
    else [])

/-- What the station does on its own where no command waits: the commands whose moment has come are put into the queue; where none
has, one bit time passes (log entry 2). -/
def State.tick (s : State) : State :=
  match s.due with
  | [] => s.passBitTime
  | due => { s with pending := due }

end Sys2Proof.Machine
end

