-- ==== Sys2Proof/Safety.lean ====
section
/-! DEFINITION. What the spec holds of the station at every moment: the laws that every step keeps. -/

namespace Sys2Proof.Machine

/-- Each line's own count is the sum of the counts of the cells in its cell list (R62). -/
def State.OwnCountsAgree (s : State) : Prop :=
  ∀ l : Fin 12, (s.line l).ownCount = countSum s.cells (s.line l).config.cells

/-- The laws of a line's state, map and lead at a station with this number (R61, R64, R69, Table 4-3): LEAD and FOLLOW have a map
entry and SOLO and VACANT none; LEAD and SOLO have this station as lead and run neither lead nor claim timer; FOLLOW and JOINING
have another lead, and JOINING runs no claim timer; a map holds at most 12 entries, one for a peer, none for this station. -/
def ArticleLine.Lawful (number : Nat) (a : ArticleLine) : Prop :=
  (a.map.length ≤ Config.mapMax ∧ (a.map.map MapEntry.station).Nodup ∧ ∀ e ∈ a.map, isPeer number e.station = true) ∧
  match a.state with
  | .vacant => a.map = [] ∧ a.lead = 0
  | .joining => a.lead ≠ number ∧ a.claimSince = none
  | .solo => a.map = [] ∧ a.lead = number ∧ a.leadSince = none ∧ a.claimSince = none
  | .lead => a.map ≠ [] ∧ a.lead = number ∧ a.leadSince = none ∧ a.claimSince = none
  | .follow => a.map ≠ [] ∧ a.lead ≠ number

/-- Every line is lawful; a station that holds an article has a number of 1 to 30; outside RUNNING and BROWNOUT every line is VACANT
(R61, R69, R87). -/
def State.LinesLawful (s : State) : Prop :=
  (∀ l : Fin 12, (s.line l).Lawful s.number) ∧
  (∀ l : Fin 12, (s.line l).state ≠ .vacant → 1 ≤ s.number ∧ s.number ≤ 30) ∧
  (s.timersRun = false → ∀ l : Fin 12, (s.line l).state = .vacant)

/-- The fields of an alert record pair as Table 5-2 says: urgency 0 in CLEAR and RESTOCKING and 1 to 3 in RAISED and HELD; the
reminder timer runs in RAISED alone, and there unless the interval is 0; the restock timer runs in RESTOCKING alone; the reminder
due flag is set in RAISED alone, and never with an interval of 0 (R88, R98). -/
def ArticleLine.AlertLawful (a : ArticleLine) : Prop :=
  alertPaired a.alert.state a.alert.urgency = true ∧
  (a.alert.reminderSince.isSome = true ↔ a.alert.state = .raised ∧ a.config.reminderMinutes ≠ 0) ∧
  (a.alert.restockSince.isSome = true ↔ a.alert.state = .restocking) ∧
  (a.alert.reminderDue = true → a.alert.state = .raised ∧ a.config.reminderMinutes ≠ 0)

/-- Every line's alert record is lawful. -/
def State.AlertsLawful (s : State) : Prop := ∀ l : Fin 12, (s.line l).AlertLawful

/-- The departure log holds at most 16 entries, each with 1 to 255 units (R43). -/
def State.LogBounded (s : State) : Prop :=
  s.log.length ≤ Config.logMax ∧ ∀ e ∈ s.log, 1 ≤ e.units ∧ e.units ≤ Config.stepMax

/-- The send queue holds at most four frames, at most one of them SENDING, each with an attempt count of 0 to 15; ages rise from the
oldest to the youngest and are below the next age (R117, R131). -/
def State.QueueBounded (s : State) : Prop :=
  s.queue.length ≤ Config.sendSlots ∧
  (s.queue.filter (fun f => !f.isWaiting)).length ≤ 1 ∧
  (∀ f ∈ s.queue, f.attempts < Config.attemptLimit ∧ f.age < s.nextAge) ∧
  (s.queue.map SendFrame.age).Pairwise (· < ·)

/-- Among the WAITING frames no two are a COUNT of one article, an ALERT of one article, or a TALLY (R131). -/
def State.QueueMerged (s : State) : Prop :=
  (s.queue.filter SendFrame.isWaiting).Pairwise (fun f g => sameKind f.content g.content = false)

/-- A cell record within its ranges (Tables 1-1 and 2-1): at most 8 weights, at most 4 strays, a count of 0 to 9,999, a balance within
300,000 g, and a fault run below 4. -/
def CellRecord.Bounded (c : CellRecord) : Prop :=
  c.window.length ≤ Config.windowSize ∧ c.strays.length ≤ Config.strayMax ∧ c.count ≤ Config.countMax ∧
  -Config.balanceMax ≤ c.balance ∧ c.balance ≤ Config.balanceMax ∧ c.faultRun < Config.faultRunLimit

/-- Every cell record is within its ranges. -/
def State.CellsBounded (s : State) : Prop := ∀ i : Fin 12, (s.cell i).Bounded

/-- An UNUSED cell holds nothing: no count, balance, strays, window or marks (R17). -/
def State.UnusedEmpty (s : State) : Prop := ∀ i : Fin 12, (s.cell i).state = .unused → s.cell i = .blank

/-- The eight line counters lie within 0 to 65,535 (R121, R130). -/
def Counters.Bounded (c : Counters) : Prop :=
  c.framesTaken ≤ Config.counterMax ∧ c.badFrames ≤ Config.counterMax ∧ c.overLength ≤ Config.counterMax ∧
  c.filtered ≤ Config.counterMax ∧ c.unknownArticle ≤ Config.counterMax ∧ c.collisions ≤ Config.counterMax ∧
  c.sendFailures ≤ Config.counterMax ∧ c.sendDrops ≤ Config.counterMax

/-- Every article code held in the article table has its bit set in the hash table (R161). -/
def State.HashHolds (s : State) : Prop :=
  ∀ l : Fin 12, (s.line l).state ≠ .vacant → s.hashTable.getLsbD (hashIndex (s.line l).config.code) = true

/-- A step carries a law on: whatever command waits, and also where none does. -/
def KeptByStep (p : State → Prop) : Prop := ∀ s t : State, p s → step s = .next t → p t

/-- k is the quotient n / d rounded to the nearest whole number, a value exactly halfway away from zero (00_scope.md, "rounded"). -/
def Rounded (n d k : Int) : Prop := 2 * |n - k * d| ≤ d ∧ (2 * |n - k * d| = d → |n| < |k * d|)

/-- The station with a good frame of this source counted and its source noted, before any block acts on it: the receiver waits for the
next idle, *frames taken* rises by 1 up to 65,535, and a source above 31 counts as 0 (R109, R111, R127, R171). -/
def State.heard (s : State) (source : Byte) : State :=
  { s with
    access := { s.access with
      assembly := .waitIdle
      lastSender := if source.toNat ≤ 31 then source.toNat else 0 }
    counters := { s.counters with framesTaken := min 65535 (s.counters.framesTaken + 1) } }

/-- The station after one article code of a good frame has been tested: *filtered* rises by 1 where the hash table's bit is clear, and
*unknown article* where it is set but no line holds the code (R128). -/
def State.codeTested (s : State) (code : Code) : State :=
  if s.hashTable.getLsbD (hashIndex code) = false then
    { s with counters := { s.counters with filtered := min 65535 (s.counters.filtered + 1) } }
  else if s.lineOf code = none then
    { s with counters := { s.counters with unknownArticle := min 65535 (s.counters.unknownArticle + 1) } }
  else s

/-- A code passes the hash table and matches this line, and no other, exactly (R128). -/
def State.Reaches (s : State) (code : Code) (l : Fin 12) : Prop :=
  s.hashTable.getLsbD (hashIndex code) = true ∧ (s.line l).state ≠ .vacant ∧ (s.line l).config.code = code ∧
  ∀ k : Fin 12, (s.line k).state ≠ .vacant → (s.line k).config.code = code → k = l

/-- The departure part of a COUNT joins the log of a station whose neighbour set holds the source, unless it carries 0 units; the
station itself is no neighbour (R45, R46, R47). -/
def State.partTaken (s : State) (source : Nat) (b : CountBody) : State :=
  match b.part with
  | none => s
  | some p =>
    if source ∈ s.neighbours ∧ source ≠ s.number ∧ p.units ≠ 0 then
      s.logJoin ⟨source, p.serial, b.code, p.unitWeight.toNat, p.tolerance.toNat, p.units.toNat, s.clock⟩
    else s

/-- The command that stands for a complete frame of this content (Tables 7-1 and 8-1). -/
def frameRow (f : Frame) : Instr :=
  match f.body with
  | .alert b => .alertTaken f.source b
  | .command b =>
    match commandOf b.code with
    | some .ack => .ack f.source b.target b.option b.payload
    | some .restockBegin => .restockBegin f.source b.target b.option b.payload
    | some .restockEnd => .restockEnd f.source b.target b.option b.payload
    | some .query => .query f.source b.target b.option b.payload
    | some .recount => .recount f.source b.target b.option b.payload
    | some .zero => .zero f.source b.target b.option b.payload
    | some .restart => .restart f.source b.target b.option b.payload
    | none => .unknownCommandCode f.source b.target b.code b.option b.payload
  | .count b => .countTaken f.source b
  | .stray b => .strayTaken f.source b
  | .tally entries => .tallyTaken f.source entries
  | .census codes => .censusTaken f.source codes
  | .status b => .statusTaken f.source b
  | .fault b => .faultTaken f.source b

end Sys2Proof.Machine
end

