-- ==== Sys2Proof/Certificates/Slice0/Obligations.lean ====
section
/-! DEFINITION. The statements for the provers. -/

open Sys2Proof Sys2Proof.Machine

/-- A code enters the window as its calibrated weight, clamped to the weight range and marked where the clamp changes it. An
extreme code enters at the nearer limit with the saturated mark. For any other code c, the rounded weight w of (c - z) * g /
65,536 enters unmarked where it lies within -20,000 to 300,000 g, bounds included, and else at the bound it is clamped to, with
the mark. A window with a marked weight is never settled, whichever kind of code gave it. (R4) -/
def Obligations.ConversionCodeGivesWindowWeight : Prop :=
  ∀ (code : Conversion) (z : BitVec 24) (g : Nat),
    (code.toInt = -8388608 → sampleOf code z g = ⟨-20000, true⟩) ∧
    (code.toInt = 8388607 → sampleOf code z g = ⟨300000, true⟩) ∧
    (code.toInt ≠ -8388608 → code.toInt ≠ 8388607 → ∀ w : Int, Rounded ((code.toInt - z.toInt) * g) 65536 w →
      (w < -20000 → sampleOf code z g = ⟨-20000, true⟩) ∧
      (300000 < w → sampleOf code z g = ⟨300000, true⟩) ∧
      (-20000 ≤ w → w ≤ 300000 → sampleOf code z g = ⟨w, false⟩)) ∧
    ∀ (band : Nat) (window : List Sample), (∃ x ∈ window, x.saturated = true) → settled band window = false

/-- A settled window takes a cell into REST and is judged with its mean; in REST it is judged from the event threshold on. In
RUNNING, with the window settled after the weight is appended: MOTION and UNSTEADY enter REST, and so does WARMING at its last
conversion, and the evaluator judges the mean of the window in the same event. In REST the mean is judged where it differs from
the baseline by at least the event threshold. WARM_UP_END with that conversion answers the same state. That WARM_UP_END answers
what CONVERSION answers is log entry 4, and that the motion count keeps its value on entry to REST is log entry 23.
(01_weighing_channels.md, 1.5; 01_weighing_channels.md, 1.6) -/
def Obligations.SettledConversionIsHandedToTheEvaluator : Prop :=
  ∀ (s : State) (code : Conversion), s.station = .running →
    let i := s.rotation
    let c := s.cell i
    let w := appendSample c.window (sampleOf code c.zeroOffset c.gain)
    let run := if inRange code then 0 else c.faultRun + 1
    let a : CellRecord := { c with window := w, saturated := w.any Sample.saturated, faultRun := run }
    let Judged (r : CellRecord) : State :=
      State.finish { (s.setCell i r).judge i (windowMean w) with rotation := i + 1 }
    run < 4 → settled s.settleBand w = true →
      (c.state = .motion ∨ c.state = .unsteady → exec (.conversion code) s = .next (Judged { a with state := .rest })) ∧
      (c.state = .warming → c.warmUp ≤ 1 →
        exec (.conversion code) s = .next (Judged { a with state := .rest, warmUp := 0 }) ∧
        exec (.warmUpEnd code) s = .next (Judged { a with state := .rest, warmUp := 0 })) ∧
      (c.state = .rest → s.eventThreshold ≤ |windowMean w - c.baseline| →
        exec (.conversion code) s = .next (Judged a))

/-- The fourth out-of-range code in a row puts a weighed cell in FAULT; the fourth in-range code in a row warms it up again. In
RUNNING, ENTER_FAULT at the fourth out-of-range code in a row of a cell in WARMING, MOTION, REST or UNSTEADY empties its window,
clears the saturated mark, sets its runs and warm-up to 0, keeps the rest of its record, asks for a CELL-FAULT frame of the cell
and lets its line test the conditions for leaving JOINING. LEAVE_FAULT at the fourth in-range code in a row answers WARMING with 8
conversions and an empty window. CONVERSION with the same code answers the same states. That CELL-FAULT is asked for before the
line's test is the model's choice (log entry 17), and that the special rows answer what CONVERSION answers is log entry 4.
(01_weighing_channels.md, 1.7; 04_article_lines.md, 4.8) -/
def Obligations.BridgeFaultEntryAndRecovery : Prop :=
  ∀ (s : State) (code : Conversion), s.station = .running →
    let i := s.rotation
    let c := s.cell i
    (c.state = .warming ∨ c.state = .motion ∨ c.state = .rest ∨ c.state = .unsteady → inRange code = false → 4 ≤ c.faultRun + 1 →
      let f : CellRecord :=
        { c with state := .fault, window := [], saturated := false, faultRun := 0, motionCount := 0, warmUp := 0 }
      let t : State :=
        State.finish { ((s.setCell i f).request (.fault .cellFault (some i))).testJoiningOfCell i with rotation := i + 1 }
      exec (.enterFault code) s = .next t ∧ exec (.conversion code) s = .next t) ∧
    (c.state = .fault → inRange code = true → 4 ≤ c.faultRun + 1 →
      let r : CellRecord :=
        { c with state := .warming, window := [], saturated := false, faultRun := 0, motionCount := 0, warmUp := 8 }
      let t : State := State.finish { s.setCell i r with rotation := i + 1 }
      exec (.leaveFault code) s = .next t ∧ exec (.conversion code) s = .next t)

/-- The own count test passes with the rounded unit number n, 1 to 255 in magnitude, whose residual lies within the allowance. For
a unit weight u above 0 and every tolerance t, the test gives n exactly when n is the step divided by u, rounded, n is not 0, |n|
is at most 255, and |step - n * u| is at most t + floor(t * (|n| - 1) / 4). With t at most a quarter of u, a step of exactly half
a unit fails; a step of one and a half units rounds to 2 in magnitude and passes exactly when half a unit lies within the
allowance for two units. (R26) -/
def Obligations.OwnCountTestFindsUnitNumber : Prop :=
  ∀ (step : Int) (u t : Nat), 0 < u →
    (∀ n : Int, unitNumber step u t = some n ↔
      Rounded step u n ∧ n ≠ 0 ∧ |n| ≤ 255 ∧ |step - n * u| ≤ t + ((t : Int) * (|n| - 1)) / 4) ∧
    (4 * t ≤ u → 2 * |step| = u → unitNumber step u t = none) ∧
    (2 * step = 3 * u → (unitNumber step u t = some 2 ↔ (u : Int) ≤ 2 * (t + t / 4)) ∧
      (unitNumber step u t = none ↔ 2 * (t + (t : Int) / 4) < u)) ∧
    (2 * step = -3 * u → (unitNumber step u t = some (-2) ↔ (u : Int) ≤ 2 * (t + t / 4)) ∧
      (unitNumber step u t = none ↔ 2 * (t + (t : Int) / 4) < u))

/-- A step below the event threshold is drift: the baseline becomes the mean and nothing else changes. Where the first rest
pending mark is clear and |m - baseline| is below the event threshold, the evaluator answers the state with that cell's baseline
at m and every other field of the station unchanged: no count, balance, stray, mark, log entry or frame. A conversion in REST
below the threshold hands nothing over: it keeps the baseline, so drift arises at an entry instant alone. (R22) -/
def Obligations.DriftMovesTheBaselineAlone : Prop :=
  ∀ (s : State) (i : Fin 12) (m : Int), |m - (s.cell i).baseline| < s.eventThreshold →
    ((s.cell i).firstRest = false → s.judge i m = s.setCell i { s.cell i with baseline := m }) ∧
    ((s.cell i).state = .rest → settled s.settleBand (s.cell i).window = true → windowMean (s.cell i).window = m →
      s.testWindow i = s)

/-- A step that undoes the unexplained balance within the tolerance is taken first and sets the balance to 0. For a step of at
least the event threshold in magnitude on a cell past its first rest: where the balance is not 0 and |step + balance| is at most
the tolerance of the cell's article, the balance becomes 0, the baseline becomes the mean and nothing else changes, whatever the
alert record, the strays, the log and the unit number say. Where the test fails the balance changes only by doubt: it stays, or
takes the whole step, clamped. (R24) -/
def Obligations.BalanceReversalTakesTheWholeBalance : Prop :=
  ∀ (s : State) (i : Fin 12) (m : Int),
    let c := s.cell i
    let step := m - c.baseline
    let t := (s.configOfCell i).tolerance
    c.firstRest = false → s.eventThreshold ≤ |step| →
      (c.balance ≠ 0 → |step + c.balance| ≤ t → s.judge i m = s.setCell i { c with balance := 0, baseline := m }) ∧
      (¬ (c.balance ≠ 0 ∧ |step + c.balance| ≤ t) →
        ((s.judge i m).cell i).balance = c.balance ∨
        ((s.judge i m).cell i).balance = max (-300000) (min 300000 (c.balance + step)))

/-- A falling step of a stray's weight removes the youngest stray that fits and asks for a STRAY frame with the event REMOVED. On
a cell past its first rest, with a step of at least the threshold that does not reverse the balance: where the step is negative
and x is a stray whose own unit weight the fallen weight meets within the stray's own tolerance, no younger stray doing so, x
leaves the list, the others keep their order, the baseline becomes the mean, a STRAY frame with the event REMOVED is asked for,
and nothing else of the cell changes, whatever the alert record holds. (R25) -/
def Obligations.StrayRemovalTakesTheYoungestFittingStray : Prop :=
  ∀ (s : State) (i : Fin 12) (m : Int) (older younger : List StrayRecord) (x : StrayRecord),
    let c := s.cell i
    let step := m - c.baseline
    c.firstRest = false → s.eventThreshold ≤ |step| →
    ¬ (c.balance ≠ 0 ∧ |step + c.balance| ≤ (s.configOfCell i).tolerance) →
    step < 0 → c.strays = older ++ x :: younger →
    |(-step) - x.unitWeight| ≤ x.tolerance → (∀ y ∈ younger, y.tolerance < |(-step) - y.unitWeight|) →
      s.judge i m = (s.setCell i { c with strays := older ++ younger, baseline := m }).request (.stray false i x)

/-- A whole number of own units changes the count; a pick records a departure and asks for its COUNT, a return asks where the
count changed. On a cell past its first rest whose step reverses no balance and removes no stray, with unit number n: the count
becomes the count plus n clamped to 0 to 9,999, the count clamped mark is set where the clamp changes the sum, the baseline
becomes the mean, every own count follows. A pick raises the departure serial, joins its entry of |n| units to the log at this
moment, and asks for a COUNT with the departure part where the line is SOLO, LEAD or FOLLOW, also where the clamp held the count.
A return asks for a COUNT without one where the count changed. (02_rest_evaluation_and_unit_counts.md, 2.3;
02_rest_evaluation_and_unit_counts.md, 2.5; 03_strays_and_the_departure_log.md, 3.3) -/
def Obligations.PickAndReturnCountUnits : Prop :=
  ∀ (s : State) (i l : Fin 12) (m n : Int),
    let c := s.cell i
    let step := m - c.baseline
    let config := (s.line l).config
    c.line = some l → c.firstRest = false → s.eventThreshold ≤ |step| →
    ¬ (c.balance ≠ 0 ∧ |step + c.balance| ≤ config.tolerance) →
    (step < 0 → ∀ y ∈ c.strays, y.tolerance < |(-step) - y.unitWeight|) →
    unitNumber step config.unitWeight config.tolerance = some n →
      let count : Nat := (max 0 (min 9999 ((c.count : Int) + n))).toNat
      let base := (s.setCell i
        { c with baseline := m, countClamped := c.countClamped || decide ((count : Int) ≠ c.count + n) }).setCount i count
      let Asked (t : State) (part : Option DeparturePart) : State :=
        if (s.line l).reports then t.request (.count config.code false part) else t
      (n < 0 →
        let units := n.natAbs
        let serial := s.departureSerial + 1
        let entry : Departure := ⟨s.number, serial, config.code, config.unitWeight, config.tolerance, units, s.clock⟩
        s.judge i m = Asked { base with log := s.log.drop (s.log.length + 1 - 16) ++ [entry], departureSerial := serial }
          (some ⟨BitVec.ofNat 8 units, BitVec.ofNat 16 config.unitWeight, BitVec.ofNat 16 config.tolerance, serial⟩)) ∧
      (0 < n → s.judge i m = if count = c.count then base else Asked base none)

/-- A rise that fits a recent departure of another article becomes a stray and takes one unit of the youngest such entry. On a
cell past its first rest whose step is positive, reverses no balance and has no unit number: where the article's record is not
RESTOCKING, the cell holds fewer than 4 strays and d is the youngest entry of another article whose unit weight lies within its
own tolerance of the step, the cell gains a stray with d's article, weights, origin and serial, d loses one unit and leaves the
log at none, the baseline becomes the mean, and a STRAY frame with the event PLACED is asked for. Nothing else of the cell or the
log changes. (02_rest_evaluation_and_unit_counts.md, 2.4; 03_strays_and_the_departure_log.md, 3.6) -/
def Obligations.StrayPlacementTakesTheYoungestDeparture : Prop :=
  ∀ (s : State) (i l : Fin 12) (m : Int) (older younger : List Departure) (d : Departure),
    let c := s.cell i
    let step := m - c.baseline
    let config := (s.line l).config
    let Fits (e : Departure) : Prop := e.code ≠ config.code ∧ |step - e.unitWeight| ≤ e.tolerance
    c.line = some l → c.firstRest = false → s.eventThreshold ≤ |step| →
    ¬ (c.balance ≠ 0 ∧ |step + c.balance| ≤ config.tolerance) →
    0 < step → unitNumber step config.unitWeight config.tolerance = none →
    (s.line l).alert.state ≠ .restocking → c.strays.length < 4 →
    s.log = older ++ d :: younger → Fits d → (∀ e ∈ younger, ¬ Fits e) →
      let x : StrayRecord := ⟨d.code, d.unitWeight, d.tolerance, d.origin, d.serial⟩
      s.judge i m =
        State.request
          { s.setCell i { c with strays := c.strays ++ [x], baseline := m } with
            log := older ++ (if d.units ≤ 1 then [] else [{ d with units := d.units - 1 }]) ++ younger }
          (.stray true i x)

/-- A step that passes no test, a rise on a RESTOCKING lane or a lane of 4 strays included, goes to the balance alone. On a cell
past its first rest whose step reverses no balance, removes no stray and has no unit number: where the step falls, or the article
is RESTOCKING, or the cell holds 4 strays, or no entry of the log of another article fits the step, the balance becomes the
balance plus the step clamped to -300,000 to 300,000 g, the baseline becomes the mean, and nothing else changes.
(02_rest_evaluation_and_unit_counts.md, 2.4; 02_rest_evaluation_and_unit_counts.md, 2.5; 03_strays_and_the_departure_log.md, 3.10)
-/
def Obligations.DoubtAddsTheStepToTheBalance : Prop :=
  ∀ (s : State) (i l : Fin 12) (m : Int),
    let c := s.cell i
    let step := m - c.baseline
    let config := (s.line l).config
    c.line = some l → c.firstRest = false → s.eventThreshold ≤ |step| →
    ¬ (c.balance ≠ 0 ∧ |step + c.balance| ≤ config.tolerance) →
    (step < 0 → ∀ y ∈ c.strays, y.tolerance < |(-step) - y.unitWeight|) →
    unitNumber step config.unitWeight config.tolerance = none →
    (step ≤ 0 ∨ (s.line l).alert.state = .restocking ∨ 4 ≤ c.strays.length ∨
      ∀ e ∈ s.log, e.code = config.code ∨ (e.tolerance : Int) < |step - e.unitWeight|) →
      s.judge i m = s.setCell i { c with balance := max (-300000) (min 300000 (c.balance + step)), baseline := m }

/-- A recount sets the count to the nearest number of units of the net weight, and at the first rest it clears the mark and may
end JOINING. With net weight N = m - tray weight - the strays' unit weights and k the rounded N / u: a recount sets the count to k
clamped to 0 to 9,999, count clamped where the clamp changes k, recount inexact where |N - k * u| exceeds the tolerance, the
balance to 0 and the baseline to m; it keeps the strays and the log, and asks for a COUNT where the count changed and the line is
SOLO, LEAD or FOLLOW. The evaluator judges an instant of a cell with the first rest pending mark as this recount, clears the mark
and tests the line's conditions for leaving JOINING. (02_rest_evaluation_and_unit_counts.md, 2.6) -/
def Obligations.RecountMeasuresTheLane : Prop :=
  ∀ (s : State) (i l : Fin 12) (m k : Int),
    let c := s.cell i
    let config := (s.line l).config
    let net := m - c.tray - (c.strays.map (fun x => (x.unitWeight : Int))).sum
    c.line = some l → 0 < config.unitWeight → Rounded net config.unitWeight k →
      let count : Nat := (max 0 (min 9999 k)).toNat
      let base := (s.setCell i { c with
        baseline := m
        balance := 0
        countClamped := decide ((count : Int) ≠ k)
        recountInexact := decide ((config.tolerance : Int) < |net - k * config.unitWeight|) }).setCount i count
      let t := if count ≠ c.count ∧ (s.line l).reports = true then base.request (.count config.code false none) else base
      s.recountCell i m = t ∧
      (c.firstRest = true → s.judge i m = (t.setCell i { t.cell i with firstRest := false }).testJoiningOfCell i)

/-- A conversion without an evaluation instant changes its cell as its state says, moves the rotation on and nothing else; outside
RUNNING none is made. In RUNNING, CONVERSION answers the state in which only the record of the rotation's cell and the rotation's
place change, with what ends every event (finish). UNUSED: the record stays. FAULT: the recovery run counts in-range codes. A
weighed cell appends its weight, keeps its mark and its fault run; below the fourth out-of-range code in a row, WARMING counts
down or enters MOTION on an unsettled last window, REST enters MOTION on an unsettled window and stays on a small difference,
MOTION counts up, UNSTEADY stays. WARM_UP_END at an unsettled last warm-up conversion, and ENTER_UNSTEADY where the raised motion
count equals ten times the motion limit, answer what CONVERSION answers. Outside RUNNING no conversion row changes a cell or the
rotation. The window: an append to fewer than 8 weights adds one, an append to 8 drops the oldest; the mean is the sum of the
weights divided by their number, rounded; the window is settled exactly where it holds 8 weights, none saturated, each within the
settle band of the mean. That a row outside RUNNING changes nothing is the model's choice (log entry 3), that the special rows
answer what CONVERSION answers is log entry 4, and that UNSTEADY leaves the motion count as it stands is log entry 23.
(01_weighing_channels.md, 1.1; 01_weighing_channels.md, 1.3; 01_weighing_channels.md, 1.5; 01_weighing_channels.md, 1.7;
01_weighing_channels.md, 1.8; 01_weighing_channels.md, 1.9) -/
def Obligations.ConversionWithoutInstant : Prop :=
  (∀ (s : State) (code : Conversion), s.station = .running →
     let i := s.rotation
     let c := s.cell i
     let w := appendSample c.window (sampleOf code c.zeroOffset c.gain)
     let run := if inRange code then 0 else c.faultRun + 1
     let a : CellRecord := { c with window := w, saturated := w.any Sample.saturated, faultRun := run }
     let After (r : CellRecord) : Prop :=
       exec (.conversion code) s = .next (State.finish { s.setCell i r with rotation := i + 1 })
     (c.state = .unused → After c) ∧
     (c.state = .fault → (c.faultRun + 1 < 4 ∨ inRange code = false) →
       After { c with faultRun := if inRange code then c.faultRun + 1 else 0 }) ∧
     (run < 4 →
       (c.state = .warming → 1 < c.warmUp → After { a with warmUp := c.warmUp - 1 }) ∧
       (c.state = .warming → c.warmUp ≤ 1 → settled s.settleBand w = false →
         After { a with warmUp := 0, state := .motion, motionCount := 0 }) ∧
       (c.state = .rest → settled s.settleBand w = false → After { a with state := .motion, motionCount := 0 }) ∧
       (c.state = .rest → settled s.settleBand w = true → |windowMean w - c.baseline| < s.eventThreshold → After a) ∧
       (c.state = .motion → settled s.settleBand w = false → c.motionCount + 1 ≠ 10 * s.motionLimit →
         After { a with motionCount := c.motionCount + 1 }) ∧
       (c.state = .unsteady → settled s.settleBand w = false → After a))) ∧
  (∀ (s : State) (code : Conversion), s.station = .running →
     let i := s.rotation
     let c := s.cell i
     let w := appendSample c.window (sampleOf code c.zeroOffset c.gain)
     let run := if inRange code then 0 else c.faultRun + 1
     let a : CellRecord := { c with window := w, saturated := w.any Sample.saturated, faultRun := run }
     let After (r : CellRecord) : State := State.finish { s.setCell i r with rotation := i + 1 }
     run < 4 → settled s.settleBand w = false →
       (c.state = .warming → c.warmUp ≤ 1 →
         exec (.warmUpEnd code) s = .next (After { a with warmUp := 0, state := .motion, motionCount := 0 })) ∧
       (c.state = .motion → c.motionCount + 1 = 10 * s.motionLimit →
         exec (.enterUnsteady code) s = .next (After { a with motionCount := c.motionCount + 1, state := .unsteady }) ∧
         exec (.conversion code) s = .next (After { a with motionCount := c.motionCount + 1, state := .unsteady }))) ∧
  (∀ (s : State) (code : Conversion), s.station ≠ .running →
    exec (.conversion code) s = .next s.finish ∧ exec (.warmUpEnd code) s = .next s ∧
    exec (.enterUnsteady code) s = .next s ∧ exec (.enterFault code) s = .next s ∧ exec (.leaveFault code) s = .next s) ∧
  ∀ (band : Nat) (window : List Sample) (x : Sample),
    let m := windowMean window
    (window.length < 8 → appendSample window x = window ++ [x]) ∧
    (∀ oldest younger, window = oldest :: younger → window.length = 8 → appendSample window x = younger ++ [x]) ∧
    (window ≠ [] → Rounded (window.map Sample.weight).sum window.length m) ∧
    (settled band window = true ↔ window.length = 8 ∧ (∀ y ∈ window, y.saturated = false) ∧
      ∀ y ∈ window, m - band ≤ y.weight ∧ y.weight ≤ m + band)

/-- An entry that joins a full departure log evicts the oldest entry, and no counter or frame tells of it. A log below 16 entries
takes the new entry at the young end and keeps the rest. A log of 16 loses its oldest entry, whatever that holds, keeps the others
in order, takes the new one at the young end and holds 16. Either way nothing else of the station changes. (R48) -/
def Obligations.FullLogEvictsItsOldestEntry : Prop :=
  ∀ (s : State) (e : Departure),
    (s.log.length < 16 → s.logJoin e = { s with log := s.log ++ [e] }) ∧
    ∀ oldest rest, s.log = oldest :: rest → s.log.length = 16 →
      s.logJoin e = { s with log := rest ++ [e] } ∧ (s.logJoin e).log.length = 16

/-- DEPARTURE_EXPIRY takes off the oldest entry at its moment; STRAY_TAKEN with PLACED from a neighbour takes one unit of the
youngest it names; others none. With a log whose oldest entry is e, in RUNNING or BROWNOUT, the command answers the state without
e, whatever units e held, with the station clock at e's time of entry plus the stray window, or later; nothing else changes. With
an empty log, or in another station state, nothing changes. That the command carries the clock on is the model's choice (log entry
1), and so is that it changes nothing where it cannot occur (log entry 3). A STRAY taken is counted, sets the last sender and has
its code tested for the counters. With the event PLACED, a source in the neighbour set other than this station, and an origin of 1
to 30: the youngest entry of that origin and serial loses one unit and leaves the log at none, its article code not being
compared. With another event, another source, or no such entry the log stays. No line, cell, stray list or queue changes.
(03_strays_and_the_departure_log.md, 3.5; 03_strays_and_the_departure_log.md, 3.8; 07_frames_reception_and_the_send_queue.md, 7.3)
-/
def Obligations.EntriesLeaveTheLog : Prop :=
  (∀ s : State,
     (∀ e rest, s.log = e :: rest → s.station = .running ∨ s.station = .brownout →
       exec .departureExpiry s =
         .next { s with log := rest, clock := max s.clock (e.enteredAt + s.strayWindow * 6000000) }) ∧
     (s.log = [] ∨ (s.station ≠ .running ∧ s.station ≠ .brownout) → exec .departureExpiry s = .next s)) ∧
  ∀ (s t : State) (source : Byte) (b : StrayBody),
    let n := if source.toNat ≤ 31 then source.toNat else 0
    let u := (t.heard source).codeTested b.code
    let Named (e : Departure) : Prop := e.origin = b.origin.toNat ∧ e.serial = b.serial
    s.inAssembly = some t →
      (∀ older younger d, b.event = 0 → n ∈ t.neighbours → n ≠ t.number → 1 ≤ b.origin.toNat → b.origin.toNat ≤ 30 →
        t.log = older ++ d :: younger → Named d → (∀ e ∈ younger, ¬ Named e) →
        exec (.strayTaken source b) s =
          .next (State.finish { u with
            log := older ++ (if d.units ≤ 1 then [] else [{ d with units := d.units - 1 }]) ++ younger })) ∧
      (b.event ≠ 0 ∨ n ∉ t.neighbours ∨ n = t.number ∨ b.origin.toNat = 0 ∨ 30 < b.origin.toNat ∨
          (∀ e ∈ t.log, ¬ Named e) →
        exec (.strayTaken source b) s = .next u.finish)

/-- A peer's COUNT or TALLY entry updates the peer's entry, adds one to a map below 12, or sets INCOMPLETE at a full map; a
COUNT's serial is compared. A known peer's entry takes the count, becomes fresh with silence 0 and, from a COUNT, takes the
frame's serial; where it held a last serial and the frame's is not the next one counted from 255 to 0, serial gaps rises by 1 and
holds at 255; a TALLY leaves the last serial. An unknown peer is added, with the serial of a COUNT or none from a TALLY, to a map
of fewer than 12 entries, and is not compared; at 12 entries INCOMPLETE is set and nothing else of the line changes.
(04_article_lines.md, 4.3; 04_article_lines.md, 4.4) -/
def Obligations.MapEntryTakesAPeersReport : Prop :=
  ∀ (a : ArticleLine) (peer count now : Nat) (serial : Byte),
    (∀ before after e, a.map = before ++ e :: after → e.station = peer → (∀ x ∈ before ++ after, x.station ≠ peer) →
      (a.countEntry peer count serial now = { a with
          map := before ++ { e with count := count, lastSerial := some serial, heardAt := now, stale := false } :: after
          serialGaps := (a.countEntry peer count serial now).serialGaps } ∧
        (e.lastSerial = none → (a.countEntry peer count serial now).serialGaps = a.serialGaps) ∧
        ∀ last, e.lastSerial = some last →
          (serial = last + 1 → (a.countEntry peer count serial now).serialGaps = a.serialGaps) ∧
          (serial ≠ last + 1 → (a.countEntry peer count serial now).serialGaps = min 255 (a.serialGaps + 1))) ∧
      a.tallyEntry peer count now =
        { a with map := before ++ { e with count := count, heardAt := now, stale := false } :: after }) ∧
    ((∀ e ∈ a.map, e.station ≠ peer) →
      (a.map.length < 12 →
        a.countEntry peer count serial now = { a with map := a.map ++ [⟨peer, count, some serial, now, false⟩] } ∧
        a.tallyEntry peer count now = { a with map := a.map ++ [⟨peer, count, none, now, false⟩] }) ∧
      (12 ≤ a.map.length →
        a.countEntry peer count serial now = { a with incomplete := true } ∧
        a.tallyEntry peer count now = { a with incomplete := true }))

/-- TALLY_TAKEN takes its entries in the order of the frame; entries of no peer, or of codes that reach no line, change counters
alone. A TALLY of 0 to 12 entries is counted, sets the last sender, and its entries are taken one after the other. An entry from
this station, from source 0, 31 or above, or whose code reaches no line advances filtered or unknown article where its code calls
for it and changes nothing else. (04_article_lines.md, 4.7; 07_frames_reception_and_the_send_queue.md, 7.3) -/
def Obligations.TallyTakenEntryByEntry : Prop :=
  ∀ (s t : State) (source : Byte) (entries : List TallyEntry),
    let n := if source.toNat ≤ 31 then source.toNat else 0
    s.inAssembly = some t → entries.length ≤ 12 →
      exec (.tallyTaken source entries) s =
        .next (State.finish (entries.foldl (fun u e => u.takeTallyEntry n e) (t.heard source))) ∧
      ∀ (u : State) (e : TallyEntry),
        n = u.number ∨ n = 0 ∨ n = 31 ∨ u.hashTable.getLsbD (hashIndex e.code) = false ∨
          (∀ l, (u.line l).state ≠ .vacant → (u.line l).config.code ≠ e.code) →
        u.takeTallyEntry n e = u.codeTested e.code

/-- A peer's TALLY entry brings count, lead and alert record into line: entry, SOLO to LEAD, evaluation, lead flag, adoption from
the lead. Where the entry's code reaches a line, in this order: the peer's entry takes the count, held at 39,996; SOLO becomes
LEAD where the entry was added; the lead timer restarts where the peer is lead; LEAD or SOLO is handed an evaluation where the
aggregate changed; a set lead flag makes the peer lead of a line with lead 0, stopping the claim timer, and makes a LEAD or SOLO
line ask for a claim-only COUNT, and moves no other lead; the alert part is handed on where the peer is then the lead.
(04_article_lines.md, 4.7) -/
def Obligations.TallyEntryOfAPeerIsTaken : Prop :=
  ∀ (u : State) (peer : Nat) (e : TallyEntry) (l : Fin 12),
    let a := u.line l
    let a1 := a.tallyEntry peer (min e.count.toNat 39996) u.clock
    let a2 : ArticleLine := { a1 with
      state := if a.state = .solo ∧ a.map.length < a1.map.length then .lead else a.state
      leadSince := if a.lead = peer then some u.clock else a.leadSince }
    let leads := a2.state = .lead ∨ a2.state = .solo
    let Flag := e.flags.getLsbD 4 = true
    1 ≤ peer → peer ≤ 30 → peer ≠ u.number → u.Reaches e.code l →
      ∃ v w : State,
        (leads → a1.aggregate ≠ a.aggregate → v = (u.setLine l a2).evaluate l) ∧
        (¬ leads ∨ a1.aggregate = a.aggregate → v = u.setLine l a2) ∧
        (¬ Flag → w = v) ∧
        (Flag → a.lead = 0 → w = v.setLine l { v.line l with lead := peer, leadSince := some u.clock, claimSince := none }) ∧
        (Flag → a.lead ≠ 0 → leads → w = v.request (.count e.code true none)) ∧
        (Flag → a.lead ≠ 0 → ¬ leads → w = v) ∧
        u.takeTallyEntry peer e =
          if (w.line l).lead = peer then w.adopt l (tallyAlertState e) (e.flags.extractLsb' 2 2).toNat else w

/-- CENSUS_TAKEN from a peer that names a line in SOLO, LEAD or FOLLOW asks for one TALLY; every code advances its counter. A
CENSUS of 1 to 12 codes is counted and sets the last sender; filtered rises by the number of codes whose bit is clear and unknown
article by the number that pass the table and match no line, each holding at 65,535. From a peer, one code matching a line in
SOLO, LEAD or FOLLOW is enough for one TALLY request; else, or from this station, source 0, 31 or above, nothing is asked for. No
line changes. (04_article_lines.md, 4.8; 07_frames_reception_and_the_send_queue.md, 7.3) -/
def Obligations.CensusOfAPeerAsksForATally : Prop :=
  ∀ (s t : State) (source : Byte) (codes : List Code),
    let n := if source.toNat ≤ 31 then source.toNat else 0
    let Passes (c : Code) : Bool := t.hashTable.getLsbD (hashIndex c)
    let u : State := { t.heard source with
      counters := { (t.heard source).counters with
        filtered := min 65535 (t.counters.filtered + (codes.filter (fun c => !Passes c)).length)
        unknownArticle := min 65535 (t.counters.unknownArticle +
          (codes.filter (fun c => Passes c && (t.lineOf c).isNone)).length) } }
    let Named := ∃ c ∈ codes, Passes c = true ∧ ∃ l, t.lineOf c = some l ∧ (t.line l).reports = true
    s.inAssembly = some t → 1 ≤ codes.length → codes.length ≤ 12 →
    t.counters.filtered ≤ 65535 → t.counters.unknownArticle ≤ 65535 →
      (1 ≤ n → n ≤ 30 → n ≠ t.number → Named → exec (.censusTaken source codes) s = .next (u.request .tally).finish) ∧
      (n = 0 ∨ n = 31 ∨ n = t.number ∨ ¬ Named → exec (.censusTaken source codes) s = .next u.finish)

/-- A line leaves JOINING at the end of the census window, at a cell's first rest or fault, or at the limit, and asks for its
initial COUNT. A JOINING line whose station's census window has ended and whose cells have each had their first rest or are in
FAULT becomes SOLO with this station as lead where its map is empty, else FOLLOW with the lead it recorded; its start hold starts
and it asks for an ordinary COUNT without a departure part. Else the test changes nothing. CENSUS_WINDOW_END carries the clock to
the end of the 2 s window, marks it ended and tests each line in line index order; JOINING_LIMIT, 60 s later, makes each line that
is still JOINING leave, whatever its cells. That the two rows carry the clock to their moment is the model's choice (log entry 1).
(04_article_lines.md, 4.8; 10_start_up_configuration_image_and_supply_monitor.md, 10.6) -/
def Obligations.LineLeavesJoining : Prop :=
  ∀ (s : State),
    (∀ l : Fin 12,
      let a := s.line l
      let left := (s.setLine l { a with
        state := if a.map.isEmpty then .solo else .follow
        lead := if a.map.isEmpty then s.number else a.lead
        leadSince := if a.map.isEmpty then none else a.leadSince
        holdSince := some s.clock }).request (.count a.config.code false none)
      let Ready := a.state = .joining ∧ (∃ moment, s.census = .ended moment) ∧
        ∀ i ∈ a.config.cells, (s.cell i).firstRest = false ∨ (s.cell i).state = .fault
      (Ready → s.testJoining l = left) ∧ (¬ Ready → s.testJoining l = s) ∧
      (a.state = .joining → s.leaveIfJoining l = left) ∧ (a.state ≠ .joining → s.leaveIfJoining l = s)) ∧
    (∀ since, s.census = .window since → s.station = .running ∨ s.station = .brownout →
      let now := max s.clock (since + 200000)
      exec .censusWindowEnd s =
        .next (State.finish (allTwelve.foldl State.testJoining { s with clock := now, census := .ended now }))) ∧
    (∀ moment l, s.census = .ended moment → s.station = .running ∨ s.station = .brownout → (s.line l).state = .joining →
      exec .joiningLimit s =
        .next (State.finish (allTwelve.foldl State.leaveIfJoining { s with clock := max s.clock (moment + 6000000) })))

/-- ENTRY_STALE marks an entry at 180 s and takes the lead from a silent lead; ENTRY_REMOVED drops it at 600 s and may bring the
line to SOLO. In RUNNING and BROWNOUT. ENTRY_STALE marks the peer's entry stale, its count staying; where the peer is lead, the
lead becomes 0 and the lead timer stops, and in FOLLOW the claim timer starts. ENTRY_REMOVED takes a stale entry off the map; LEAD
or FOLLOW with an empty map becomes SOLO with this station as lead and both timers stopped; a line then LEAD or SOLO is handed an
evaluation where the aggregate changed, or where the map emptied with the reminder due flag set. Each carries the clock to its
moment (log entry 1); no other line changes. (04_article_lines.md, 4.3; 04_article_lines.md, 4.9) -/
def Obligations.SilentPeerGoesStaleAndLeavesTheMap : Prop :=
  ∀ (s : State) (l : Fin 12) (peer : Nat) (e : MapEntry) (before after : List MapEntry),
    let a := s.line l
    s.station = .running ∨ s.station = .brownout → a.map = before ++ e :: after → e.station = peer →
    (∀ x ∈ before ++ after, x.station ≠ peer) →
      (e.stale = false →
        let now := max s.clock (e.heardAt + 18000000)
        let map := before ++ { e with stale := true } :: after
        exec (.entryStale l peer) s =
          .next (State.setLine { s with clock := now } l
            (if a.lead = peer then
              { a with map := map, lead := 0, leadSince := none,
                       claimSince := if a.state = .follow then some now else a.claimSince }
            else { a with map := map }))) ∧
      (e.stale = true →
        let now := max s.clock (e.heardAt + 60000000)
        let b : ArticleLine :=
          if before ++ after = [] ∧ (a.state = .lead ∨ a.state = .follow) then
            { a with map := [], state := .solo, lead := s.number, leadSince := none, claimSince := none }
          else { a with map := before ++ after }
        let t := State.setLine { s with clock := now } l b
        exec (.entryRemoved l peer) s =
          .next (State.finish
            (if (b.state = .lead ∨ b.state = .solo) ∧
                (b.aggregate ≠ a.aggregate ∨ (before ++ after = [] ∧ a.alert.reminderDue = true)) then t.evaluate l
            else t)))

/-- TALLY_PHASE asks for a TALLY where a line is SOLO, LEAD or FOLLOW, then hands each line its minute evaluation, and comes again
a minute later. In RUNNING and BROWNOUT the clock stands at the phase, or later, the next phase is one minute after it, the TALLY
is asked for first, only where some line reports, and the lines are handed evaluations in line index order. In LOADING,
UNCONFIGURED and without supply nothing changes. Carrying the clock to the phase and changing nothing elsewhere are the model's
choices (log entries 1 and 3). (04_article_lines.md, 4.7; 05_restocking_alerts.md, 5.7) -/
def Obligations.TallyPhaseAsksThenEvaluates : Prop :=
  ∀ s : State,
    let t : State := { s with clock := max s.clock s.tallyAt, tallyAt := s.tallyAt + 6000000 }
    (s.station = .running ∨ s.station = .brownout →
      ((∃ l, (s.line l).state = .solo ∨ (s.line l).state = .lead ∨ (s.line l).state = .follow) →
        exec .tallyPhase s = .next (State.finish (allTwelve.foldl State.evaluate (t.request .tally)))) ∧
      ((∀ l, (s.line l).state = .vacant ∨ (s.line l).state = .joining) →
        exec .tallyPhase s = .next (State.finish (allTwelve.foldl State.evaluate t)))) ∧
    (s.station ≠ .running → s.station ≠ .brownout → exec .tallyPhase s = .next s.finish)

/-- COUNT_TAKEN of this station's own COUNT makes it lead and evaluate; from a peer it updates its entry, makes it lead and
withdraws waiting ALERTs and claims. Own: Where the frame's source is this station and its code reaches a line in SOLO, LEAD or
FOLLOW, the frame is counted, the line becomes LEAD if its map holds an entry and SOLO if not, its lead becomes this station, its
lead and claim timers stop, and it is handed an evaluation. Own count, map, serial, gaps and alert record stay, and the count
field is not written; a departure part makes no entry. A line in JOINING is left as it stands: the spec says it cannot occur, so
that clause is the model's choice (log entry 12). Peer: Where a peer's COUNT, claim-only or not, reaches a line, the frame is
counted and its departure part joins a neighbour's log. In SOLO, LEAD and FOLLOW the peer's entry takes the count, held at 39,996,
the line becomes FOLLOW with the peer as lead, the lead timer restarts and the claim timer stops, and every WAITING ALERT and
claim-only COUNT of the article leaves the queue, SENDING frames and other COUNTs staying. In JOINING the entry and the lead are
recorded and the line stays JOINING. No evaluation follows and nothing else changes. (04_article_lines.md, 4.6;
05_restocking_alerts.md, 5.4; 05_restocking_alerts.md, 5.6; 03_strays_and_the_departure_log.md, 3.4) -/
def Obligations.CountTakenMovesTheLead : Prop :=
  (∀ (s t : State) (source : Byte) (b : CountBody) (l : Fin 12),
     let a := t.line l
     s.inAssembly = some t → source.toNat = t.number → 1 ≤ t.number → t.number ≤ 30 → t.Reaches b.code l →
       (a.state = .solo ∨ a.state = .lead ∨ a.state = .follow →
         exec (.countTaken source b) s =
           .next (State.finish (((t.heard source).setLine l
             { a with state := if a.map.isEmpty then .solo else .lead, lead := t.number, leadSince := none, claimSince := none }
             ).evaluate l))) ∧
       (a.state = .joining → exec (.countTaken source b) s = .next (t.heard source).finish)) ∧
  ∀ (s t : State) (source : Byte) (b : CountBody) (l : Fin 12),
    let p := source.toNat
    let u := (t.heard source).partTaken p b
    let a := (t.line l).countEntry p (min b.count.toNat 39996) b.serial t.clock
    s.inAssembly = some t → 1 ≤ p → p ≤ 30 → p ≠ t.number → t.Reaches b.code l →
      ((t.line l).state = .joining →
        exec (.countTaken source b) s =
          .next (State.finish (u.setLine l { a with lead := p, leadSince := some t.clock }))) ∧
      ((t.line l).state = .solo ∨ (t.line l).state = .lead ∨ (t.line l).state = .follow →
        exec (.countTaken source b) s =
          .next (State.finish { u.setLine l
              { a with state := .follow, lead := p, leadSince := some t.clock, claimSince := none } with
            queue := t.queue.filter (fun f =>
              !(f.isWaiting && (isAlertOf b.code f.content || isClaimOf b.code f.content))) }))

/-- A COUNT or ALERT that reaches no line, and any STATUS or FAULT, is counted and sets the last sender; a COUNT's departure part
acts all the same. A COUNT whose code reaches no line, or from source 0, 31 or above: a departure part from a neighbour joins the
log whatever the hash test says; filtered or unknown article rises where the code reaches no line; no line, queue, cell or timer
changes. An ALERT whose code reaches no line advances filtered or unknown article and changes nothing else. A STATUS or FAULT
advances frames taken, sets the last sender, 0 for a source above 31, ends the assembly until the next idle, and no block acts on
it, whatever its field values. (04_article_lines.md, 4.6; 07_frames_reception_and_the_send_queue.md, 7.3;
11_frame_and_image_layouts.md, 11.2) -/
def Obligations.FramesThatReachNoLineAreCounted : Prop :=
  (∀ (s t : State) (source : Byte) (b : CountBody),
     let n := if source.toNat ≤ 31 then source.toNat else 0
     let u := ((t.heard source).partTaken n b).codeTested b.code
     s.inAssembly = some t →
     (n = 0 ∨ n = 31) ∧ n ≠ t.number ∨ t.hashTable.getLsbD (hashIndex b.code) = false ∨
       (∀ l, (t.line l).state ≠ .vacant → (t.line l).config.code ≠ b.code) →
       exec (.countTaken source b) s = .next u.finish) ∧
  (∀ (s t : State) (source : Byte) (b : AlertBody),
     s.inAssembly = some t →
     t.hashTable.getLsbD (hashIndex b.code) = false ∨
       (∀ l, (t.line l).state ≠ .vacant → (t.line l).config.code ≠ b.code) →
       exec (.alertTaken source b) s = .next ((t.heard source).codeTested b.code).finish) ∧
  ∀ (s t : State) (source : Byte) (b : StatusBody) (f : FaultBody), s.inAssembly = some t →
    exec (.statusTaken source b) s = .next (t.heard source).finish ∧
    exec (.faultTaken source f) s = .next (t.heard source).finish

/-- An evaluation decides by the first row of the table that holds, and a due reminder raises a RAISED record by one step. For a
standing alert of state x and urgency j, own where no ALERT of the article is in the queue, and the reminder due flag: CLEAR
decides RAISED at or below the reorder level, urgency 2 at 0 and else 1. RAISED and HELD decide RAISED 2 at aggregate 0 with
urgency 1, else CLEAR 0 from reorder level plus margin on. A due, own, RAISED alert with no table decision decides RAISED, 2 from
1 and 3 from 2 or 3; with a table decision of RAISED the urgency is the larger; CLEAR stands. A HELD or queued standing alert
gives no reminder. A RESTOCKING record is not evaluated. The evaluation does not clear the flag. (R92, R93) -/
def Obligations.DecisionTableAndReminder : Prop :=
  (∀ (x : AlertState) (j aggregate reorder margin : Nat) (own due : Bool),
     let D := decision ⟨x, j⟩ own due aggregate reorder margin
     let Step := due = true ∧ own = true ∧ x = .raised
     let k := if j = 1 then 2 else 3
     let RunsOut := aggregate = 0 ∧ j = 1
     (x = .clear → aggregate = 0 → D = some ⟨.raised, 2⟩) ∧
     (x = .clear → aggregate ≠ 0 → aggregate ≤ reorder → D = some ⟨.raised, 1⟩) ∧
     (x = .clear → reorder < aggregate → D = none) ∧
     (x = .raised ∨ x = .held → RunsOut → D = some ⟨.raised, 2⟩) ∧
     (x = .raised ∨ x = .held → ¬ RunsOut → reorder + margin ≤ aggregate → D = some ⟨.clear, 0⟩) ∧
     (x = .raised ∨ x = .held → ¬ RunsOut → aggregate < reorder + margin → ¬ Step → D = none) ∧
     (¬ RunsOut → aggregate < reorder + margin → Step → D = some ⟨.raised, k⟩)) ∧
  ∀ (s : State) (l : Fin 12), ((s.evaluate l).line l).alert.reminderDue = (s.line l).alert.reminderDue

/-- An evaluation of a LEAD or SOLO line out of its hold and not RESTOCKING asks for an ALERT of its decision; it changes no
record. The standing alert is that of the WAITING ALERT of the article, else of the SENDING one, else the record's own; the
aggregate is the own count plus the counts of the map. Where a decision is reached the ALERT of the article with its state,
urgency and the line's reorder level is asked for (a waiting one takes its contents, by the queue's rule), else nothing changes. A
line that is not LEAD or SOLO, runs its start hold or is RESTOCKING is not evaluated. In every case no line's record, count, map,
lead or state changes. (05_restocking_alerts.md, 5.4) -/
def Obligations.EvaluationAsksForItsDecision : Prop :=
  ∀ (s : State) (l : Fin 12),
    let a := s.line l
    let Waiting (x : Standing) := ∃ f ∈ s.queue, f.phase = .waiting ∧ alertOf a.config.code f = some x
    let Sending (x : Standing) := ∃ f ∈ s.queue, f.phase ≠ .waiting ∧ alertOf a.config.code f = some x
    let amount := a.ownCount + (a.map.map MapEntry.count).sum
    let Evaluates := (a.state = .lead ∨ a.state = .solo) ∧ a.holdSince = none ∧ a.alert.state ≠ .restocking
    let Outcome (st : Standing) (own : Bool) : Prop :=
      s.evaluate l = match decision st own a.alert.reminderDue amount a.config.reorder a.config.margin with
        | none => s
        | some d => s.request (.alert a.config.code (d.state == .raised) d.urgency a.config.reorder)
    (¬ Evaluates → s.evaluate l = s) ∧
    (Evaluates →
      (∀ x, Waiting x → (∀ y, Waiting y → y = x) → Outcome x false) ∧
      (∀ x, (∀ y, ¬ Waiting y) → Sending x → (∀ y, Sending y → y = x) → Outcome x false) ∧
      ((∀ y, ¬ Waiting y ∧ ¬ Sending y) → Outcome ⟨a.alert.state, a.alert.urgency⟩ true)) ∧
    ∀ k : Fin 12, ((s.evaluate l).line k).alert = (s.line k).alert ∧ ((s.evaluate l).line k).state = (s.line k).state ∧
      ((s.evaluate l).line k).lead = (s.line k).lead ∧ ((s.evaluate l).line k).map = (s.line k).map ∧
      ((s.evaluate l).line k).ownCount = (s.line k).ownCount

/-- ALERT_TAKEN raises, merges or clears the record of the line it reaches, by the table of 5.3, and nothing else. From a source
of 1 to 30, this station included, on a line that is not VACANT, whatever its state and lead: RAISED with urgency 1 to 3 makes a
CLEAR, RAISED or HELD record RAISED with the larger urgency, restarts the reminder timer unless the interval is 0, and clears the
due flag. CLEAR with urgency 0 makes it CLEAR 0, stops the reminder timer and clears the flag. A RESTOCKING record, a source of 0,
31 or above, another state, or a state and urgency that do not pair leave the record. The frame is counted and sets the last
sender; no timer but the reminder's, no queue and no other line changes. The frame comes as one row, and its event ends as every
event ends (log entries 6 and 15). (05_restocking_alerts.md, 5.3; 07_frames_reception_and_the_send_queue.md, 7.3) -/
def Obligations.AlertTakenSetsTheRecord : Prop :=
  ∀ (s t : State) (source : Byte) (b : AlertBody) (l : Fin 12),
    let r := (t.line l).alert
    let k := b.urgency.toNat
    let u := t.heard source
    let Becomes (x : AlertRecord) := exec (.alertTaken source b) s = .next (u.setLine l { t.line l with alert := x }).finish
    let Stays := exec (.alertTaken source b) s = .next u.finish
    s.inAssembly = some t → t.Reaches b.code l → (t.line l).AlertLawful →
      (source.toNat = 0 ∨ 31 ≤ source.toNat → Stays) ∧
      (1 ≤ source.toNat → source.toNat ≤ 30 →
        (r.state = .restocking → Stays) ∧
        (b.state ≠ 0 → b.state ≠ 1 → Stays) ∧
        (b.state = 1 → k = 0 ∨ 3 < k → Stays) ∧
        (b.state = 0 → k ≠ 0 → Stays) ∧
        (r.state ≠ .restocking → b.state = 0 → k = 0 → Becomes ⟨.clear, 0, none, false, none⟩) ∧
        (r.state ≠ .restocking → b.state = 1 → 1 ≤ k → k ≤ 3 →
          Becomes ⟨.raised, if r.state = .clear then k else max r.urgency k,
            if (t.line l).config.reminderMinutes = 0 then none else some t.clock, false, none⟩))

/-- ACK, RESTOCK_BEGIN and RESTOCK_END change the record of each listed line, each once, whatever target, option and source say.
In RUNNING, the command frame is counted and the lines of its list are reached in its order, a code listed twice once, an
unmatched one not at all; a body with a cell number is an empty list. ACK: a RAISED record becomes HELD with its urgency, reminder
stopped and flag cleared, the WAITING ALERT is withdrawn and the line is handed an evaluation; other records stay. RESTOCK-BEGIN:
any record becomes RESTOCKING 0 with the restock timer from 0, reminder stopped, the WAITING ALERT withdrawn. RESTOCK-END: a
RESTOCKING record becomes CLEAR 0, timers stopped, and is evaluated; others stay. (05_restocking_alerts.md, 5.8;
08_commands_from_the_line.md, 8.2) -/
def Obligations.ArticleCommandsChangeRecords : Prop :=
  (∀ (s t : State) (source target option : Byte) (payload : Payload),
    let codes := firstOccurrences (payloadCodes payload)
    let Each (act : State → Fin 12 → State) : State :=
      codes.foldl (fun u c => match u.lineOf c with | some l => act u l | none => u) (t.heard source)
    s.inAssembly = some t → s.station = .running → payload.wf = true →
      exec (.ack source target option payload) s = .next (Each State.ackLine).finish ∧
      exec (.restockBegin source target option payload) s = .next (Each State.restockBeginLine).finish ∧
      exec (.restockEnd source target option payload) s = .next (Each State.restockEndLine).finish ∧
      codes.Nodup ∧ ∀ c, c ∈ codes ↔ ∃ list, payload = .codes list ∧ c ∈ list) ∧
  ∀ (u : State) (l : Fin 12),
    let a := u.line l
    let r := a.alert
    let Withdrawn (t : State) : State :=
      { t with queue := t.queue.filter (fun f => !(f.isWaiting && isAlertOf a.config.code f.content)) }
    (r.state = .raised →
      u.ackLine l = (Withdrawn (u.setLine l { a with
        alert := { r with state := .held, reminderSince := none, reminderDue := false } })).evaluate l) ∧
    (r.state ≠ .raised → u.ackLine l = u) ∧
    u.restockBeginLine l = Withdrawn (u.setLine l { a with alert := ⟨.restocking, 0, none, false, some u.clock⟩ }) ∧
    (r.state = .restocking → u.restockEndLine l = (u.setLine l { a with alert := ⟨.clear, 0, none, false, none⟩ }).evaluate l) ∧
    (r.state ≠ .restocking → u.restockEndLine l = u)

/-- A record adopts the alert part of its lead's TALLY entry by the table of R105, without an evaluation. For a lawful record and
an alert part whose state and urgency pair: the record takes the state of the part, CLEAR and RESTOCKING with urgency 0, RAISED
and HELD with the part's urgency or, from RAISED or HELD, the larger of the two. A record that stays in its state keeps its timers
and due flag; at every change the flag is cleared, the reminder runs from 0 exactly where the new state is RAISED and the interval
is not 0, the restock timer from 0 exactly where it is RESTOCKING. Becoming RESTOCKING withdraws the article's WAITING ALERT. A
part that does not pair is not adopted. Nothing else changes and no evaluation is handed. (R105) -/
def Obligations.AdoptionBringsTheRecordIntoLine : Prop :=
  ∀ (s : State) (l : Fin 12) (state : AlertState) (k : Nat),
    let a := s.line l
    let r := a.alert
    let fresh := if a.config.reminderMinutes = 0 then none else some s.clock
    let Becomes (x : AlertRecord) := s.adopt l state k = s.setLine l { a with alert := x }
    a.AlertLawful →
      (alertPaired state k = false → s.adopt l state k = s) ∧
      (alertPaired state k = true →
        (state = .clear → Becomes ⟨.clear, 0, none, false, none⟩) ∧
        (state = .raised → r.state = .clear ∨ r.state = .restocking → Becomes ⟨.raised, k, fresh, false, none⟩) ∧
        (state = .raised → r.state = .raised → Becomes { r with urgency := max r.urgency k }) ∧
        (state = .raised → r.state = .held → Becomes ⟨.raised, max r.urgency k, fresh, false, none⟩) ∧
        (state = .held → r.state = .clear ∨ r.state = .restocking → Becomes ⟨.held, k, none, false, none⟩) ∧
        (state = .held → r.state = .raised ∨ r.state = .held → Becomes ⟨.held, max r.urgency k, none, false, none⟩) ∧
        (state = .restocking → r.state = .restocking → s.adopt l state k = s) ∧
        (state = .restocking → r.state ≠ .restocking →
          s.adopt l state k =
            { s.setLine l { a with alert := ⟨.restocking, 0, none, false, some s.clock⟩ } with
              queue := s.queue.filter (fun f => !(f.isWaiting && isAlertOf a.config.code f.content)) }))

/-- The lead timer takes the lead from a silent lead, the claim timer asks for a claim; start hold, reminder and restock timers
act and hand the line an evaluation. In RUNNING and BROWNOUT, each at its moment (log entry 1). LEAD_TIMER_EXPIRY on a line whose
lead has no entry sets the lead to 0, stops the timer and, in FOLLOW, starts the claim timer; where the lead has an entry, that
entry becomes stale as well. CLAIM_TIMER_EXPIRY stops the claim timer, which ran this station's number times 250 ms, and asks for
a claim-only COUNT without a departure part where the line is FOLLOW with lead 0; else it asks for nothing. The start hold of 10 s
stops; the reminder timer, at the reminder interval, sets the due flag and starts again from 0; the restock timer, at the restock
limit, makes the record CLEAR with urgency 0 and both timers stopped; each of these three then hands the line an evaluation.
Nothing else changes. That the lead's own entry becomes stale with the lead timer is log entry 25. (04_article_lines.md, 4.9;
05_restocking_alerts.md, 5.5; 05_restocking_alerts.md, 5.7; 05_restocking_alerts.md, 5.8) -/
def Obligations.LineTimersExpire : Prop :=
  (∀ (s : State) (l : Fin 12) (since : Nat),
     let a := s.line l
     s.station = .running ∨ s.station = .brownout →
       (a.leadSince = some since →
         let now := max s.clock (since + 18000000)
         exec (.leadTimerExpiry l) s =
           .next (State.setLine { s with clock := now } l { a with
             map := a.map.map (fun e => if e.station = a.lead then { e with stale := true } else e)
             lead := 0
             leadSince := none
             claimSince := if a.state = .follow then some now else a.claimSince })) ∧
       (a.claimSince = some since →
         let t := State.setLine { s with clock := max s.clock (since + s.number * 25000) } l { a with claimSince := none }
         (a.state = .follow → a.lead = 0 →
           exec (.claimTimerExpiry l) s = .next (t.request (.count a.config.code true none)).finish) ∧
         (a.state ≠ .follow ∨ a.lead ≠ 0 → exec (.claimTimerExpiry l) s = .next t.finish))) ∧
  ∀ (s : State) (l : Fin 12) (since : Nat),
    let a := s.line l
    s.station = .running ∨ s.station = .brownout →
      (a.holdSince = some since →
        exec (.startHoldExpiry l) s =
          .next (State.finish ((State.setLine { s with clock := max s.clock (since + 1000000) } l
            { a with holdSince := none }).evaluate l))) ∧
      (a.alert.reminderSince = some since →
        let now := max s.clock (since + a.config.reminderMinutes * 6000000)
        exec (.reminderTimerExpiry l) s =
          .next (State.finish ((State.setLine { s with clock := now } l
            { a with alert := { a.alert with reminderDue := true, reminderSince := some now } }).evaluate l))) ∧
      (a.alert.restockSince = some since →
        exec (.restockTimerExpiry l) s =
          .next (State.finish ((State.setLine { s with clock := max s.clock (since + a.config.restockMinutes * 6000000) } l
            { a with alert := ⟨.clear, 0, none, false, none⟩ }).evaluate l)))

/-- CARRIER makes the line busy and ends a round, LINE_IDLE abandons a frame in assembly and begins a round, ROUND_REPEAT begins
it anew. A falling edge puts the line to 0 for the bit times of its operand in every station state. With the receiver on it sets
the quiet count to 0 and the line busy; on an idle line it begins a frame in assembly, or none for a glitch, whose start bit is
not at 0 at its middle; it ends the round unless this station sends. On a busy line while this station sends nothing, LINE_IDLE
makes it idle with the line at 1 and 20 quiet bit times, the assembler ready and a round at slot 0, 0 bit times old; a frame in
assembly counts as bad and sets the last sender to 0. ROUND_REPEAT on an idle line whose slots have all begun starts at slot 0
again with the same last sender. With the receiver off no more than the line's level changes. Rows taken while their event cannot
occur change nothing, and the level of the line is told by CARRIER (log entries 3 and 5). (06_aisle_line_access.md, 6.1;
06_aisle_line_access.md, 6.2; 06_aisle_line_access.md, 6.3) -/
def Obligations.CarrierIdleAndRounds : Prop :=
  ∀ s : State,
    (s.station = .running ∨ s.station = .unconfigured →
      (∀ low, exec (.carrier low) s = .next { s with
          lineLow := low
          access := { s.access with
            idle := false
            quiet := 0
            assembly := if s.access.idle then (if low = 0 then .waitIdle else .assembling) else s.access.assembly
            round := if ∃ f ∈ s.queue, f.phase ≠ .waiting then s.access.round else none } }) ∧
      (s.access.idle = false → (∀ f ∈ s.queue, f.phase = .waiting) →
        (s.access.assembly ≠ .assembling →
          exec .lineIdle s = .next { s with
            lineLow := 0
            access := { s.access with idle := true, quiet := 20, assembly := .ready, round := some ⟨0, 0⟩ } }) ∧
        (s.access.assembly = .assembling →
          exec .lineIdle s = .next { s with
            lineLow := 0
            access := { s.access with idle := true, quiet := 20, assembly := .ready, round := some ⟨0, 0⟩, lastSender := 0 }
            counters := { s.counters with badFrames := min 65535 (s.counters.badFrames + 1) } })) ∧
      (∀ elapsed, s.access.idle = true → s.access.round = some ⟨96, elapsed⟩ →
        exec .roundRepeat s = .next { s with access := { s.access with round := some ⟨0, 0⟩ } })) ∧
    (s.station ≠ .running → s.station ≠ .unconfigured →
      (∀ low, exec (.carrier low) s = .next { s with lineLow := low }) ∧
      exec .lineIdle s = .next s ∧ exec .roundRepeat s = .next s)

/-- FRAMING_ERROR, SYNC_MISMATCH, BAD_FRAME and OVER_LENGTH_DISCARD count once, set the last sender to 0 and end the assembly.
With t the station with a frame in assembly: a framing error, a first or second character other than the sync character, and a row
of characters that is no good frame and whose header gives a body length of at most 80, or that has no whole header, raise bad
frames by 1; a header with a body length above 80, by its own row or in a row of characters, raises over-length alone. Each sets
the last sender to 0, the receiver assembles nothing until the next idle, and no block acts. Where no frame is in assembly nothing
changes (BAD_FRAME ends its event as every event ends). A frame is in assembly where the receiver is on and either one is being
assembled, or the line is idle with the assembler ready: then its first character is its carrier. None is while the receiver waits
for the next idle or is off. That a row without a frame in assembly is taken and changes nothing is log entry 3, that a frame's
first character is its carrier is log entry 6, and that a row without a whole header counts as bad is log entry 7.
(06_aisle_line_access.md, 6.2; 07_frames_reception_and_the_send_queue.md, 7.3) -/
def Obligations.BrokenFramesAreAbandonedOrDiscarded : Prop :=
  ∀ (s : State),
    let Bad (t : State) : State := { t with
      counters := { t.counters with badFrames := min 65535 (t.counters.badFrames + 1) }
      access := { t.access with lastSender := 0, assembly := .waitIdle } }
    let Discarded (t : State) : State := { t with
      counters := { t.counters with overLength := min 65535 (t.counters.overLength + 1) }
      access := { t.access with lastSender := 0, assembly := .waitIdle } }
    let On := s.station = .running ∨ s.station = .unconfigured
    (∀ t, s.inAssembly = some t →
      exec .framingError s = .next (Bad t) ∧
      (∀ c, c ≠ 0xA5#8 → exec (.syncMismatch c) s = .next (Bad t)) ∧
      (∀ characters, characters.length < 3 → exec (.badFrame characters) s = .next (Bad t).finish) ∧
      (∀ (kind length source : Byte) (rest : List Byte),
        (length.toNat ≤ 80 → goodFrame (kind :: length :: source :: rest) = none →
          exec (.badFrame (kind :: length :: source :: rest)) s = .next (Bad t).finish) ∧
        (80 < length.toNat →
          exec (.badFrame (kind :: length :: source :: rest)) s = .next (Discarded t).finish ∧
          exec (.overLengthDiscard length) s = .next (Discarded t)))) ∧
    (s.inAssembly = none →
      exec .framingError s = .next s ∧ (∀ c, exec (.syncMismatch c) s = .next s) ∧
      (∀ characters, exec (.badFrame characters) s = .next s.finish) ∧
      ∀ length, exec (.overLengthDiscard length) s = .next s) ∧
    (On → s.access.assembly = .assembling → s.inAssembly = some s) ∧
    (On → s.access.assembly = .ready → s.access.idle = true →
      s.inAssembly = some { s with access := { s.access with
        idle := false
        quiet := 0
        assembly := .assembling
        round := if ∃ f ∈ s.queue, f.phase ≠ .waiting then s.access.round else none } }) ∧
    (On → s.access.assembly = .waitIdle → s.inAssembly = none) ∧ (¬ On → s.inAssembly = none)

/-- In this station's slot of a class the first waiting frame of the class enters SENDING with its fields formed; in any other
slot nothing is sent. On an idle line, not sending, in RUNNING, or in UNCONFIGURED for a FAULT: where the slot that begins is 32
times a class plus the station's offset and f is the oldest WAITING frame of that class, f enters SENDING with the frame formed
from the station at this moment, a COUNT with its first serial takes the line's serial raised by 1 from 255 to 0, the line becomes
busy with the frame in assembly, the line is at 0 for the start bit, and all else stays. Where the slot is not this station's, or
no such frame waits (in UNCONFIGURED no FAULT), the round goes on to the next slot and nothing else changes. The offset is own
number less last sender less 1, counted modulo 32. ALERT and COMMAND are of class 0, COUNT and STRAY of class 1, TALLY, CENSUS,
STATUS and FAULT of class 2. The slot is the operand of the row (log entry 26). (06_aisle_line_access.md, 6.3;
04_article_lines.md, 4.4) -/
def Obligations.ContentionSlotBeginsAnAttempt : Prop :=
  (∀ s : State, (s.offset : Int) = ((s.number : Int) - s.access.lastSender - 1) % 32) ∧
  (∀ c : Content, contentClass c = match c with
    | .alert _ _ _ _ => 0
    | .command _ _ => 0
    | .count _ _ _ => 1
    | .stray _ _ _ => 1
    | .tally => 2
    | .census _ => 2
    | .status _ => 2
    | .fault _ _ => 2) ∧
  ∀ (s : State) (slot elapsed : Nat),
    let r : Round := ⟨slot + 1, max elapsed (slot * 20)⟩
    s.station = .running ∨ s.station = .unconfigured → s.access.idle = true → (∀ g ∈ s.queue, g.phase = .waiting) →
    s.access.round = some ⟨slot, elapsed⟩ → slot < 96 →
      ((slot % 32 ≠ s.offset ∨ ∀ g ∈ s.queue, contentClass g.content ≠ slot / 32 ∨
          (s.station = .unconfigured ∧ ∀ code cell, g.content ≠ .fault code cell)) →
        exec (.contentionSlot slot) s = .next { s with access := { s.access with round := some r } }) ∧
      ∀ before f after, s.QueueBounded → slot % 32 = s.offset → s.queue = before ++ f :: after →
        contentClass f.content = slot / 32 → (∀ g ∈ before, contentClass g.content ≠ slot / 32) →
        (s.station = .running ∨ ∃ code cell, f.content = .fault code cell) →
        let Sent (u : State) (serial : Byte) (kept : Option Byte) : Prop :=
          exec (.contentionSlot slot) s = .next { u with
            queue := before ++ { f with
              phase := .sending ⟨BitVec.ofNat 8 s.number, u.formBody f.content serial⟩, serial := kept } :: after
            lineLow := 1
            access := { s.access with idle := false, quiet := 0, assembly := .assembling, round := some r } }
        (∀ code claim part l, s.station = .running → f.content = .count code claim part → f.serial = none →
          (s.line l).state ≠ .vacant → (s.line l).config.code = code →
          (∀ k, (s.line k).state ≠ .vacant → (s.line k).config.code = code → k = l) →
          Sent (s.setLine l { s.line l with serial := (s.line l).serial + 1 }) ((s.line l).serial + 1)
            (some ((s.line l).serial + 1))) ∧
        (∀ code claim part n, s.station = .running → f.content = .count code claim part → f.serial = some n →
          Sent s n (some n)) ∧
        ((∀ code claim part, f.content ≠ .count code claim part) → f.serial = none → Sent s 0 none)

/-- At an attempt a COUNT takes the own count, an ALERT the aggregate, a TALLY an entry for every reporting line; the other kinds
were fixed at the request. For the line l that alone holds the code: the body of a COUNT carries l's own count, the frame's serial
and its claim-only flag in bit 0; that of an ALERT carries state 1 or 0, its urgency, l's aggregate and the reorder level of the
request. A TALLY carries, in line index order, code, own count, alert state, urgency and lead flag of every line in SOLO, LEAD or
FOLLOW and of no other. STRAY, CENSUS, COMMAND, STATUS and FAULT carry what the request fixed, a COMMAND target 0 and option 0, a
FAULT without a cell 255. Reserved bits are 0. (07_frames_reception_and_the_send_queue.md, 7.2; 11_frame_and_image_layouts.md,
11.2) -/
def Obligations.FormedFrameHoldsTheStationAsItStands : Prop :=
  ∀ (s : State) (serial : Byte),
    (∀ (code : Code) (l : Fin 12), (s.line l).state ≠ .vacant → (s.line l).config.code = code →
      (∀ k, (s.line k).state ≠ .vacant → (s.line k).config.code = code → k = l) →
      (∀ claim part, s.formBody (.count code claim part) serial =
        .count ⟨code, BitVec.ofNat 16 (s.line l).ownCount, serial, if claim then 1 else 0, part⟩) ∧
      (∀ raised urgency reorder, s.formBody (.alert code raised urgency reorder) serial =
        .alert ⟨code, if raised then 1 else 0, BitVec.ofNat 8 urgency,
          BitVec.ofNat 24 ((s.line l).ownCount + ((s.line l).map.map MapEntry.count).sum), BitVec.ofNat 16 reorder⟩)) ∧
    (∃ entries, s.formBody .tally serial = .tally entries ∧
      entries.map TallyEntry.code = (allTwelve.filter (fun l =>
        (s.line l).state == .solo || (s.line l).state == .lead || (s.line l).state == .follow)).map (fun l => (s.line l).config.code) ∧
      ∀ e ∈ entries, ∃ l, ((s.line l).state = .solo ∨ (s.line l).state = .lead ∨ (s.line l).state = .follow) ∧
        e.code = (s.line l).config.code ∧ e.count = BitVec.ofNat 16 (s.line l).ownCount ∧
        ((s.line l).alert.urgency ≤ 3 →
          tallyAlertState e = (s.line l).alert.state ∧ tallyUrgency e = (s.line l).alert.urgency ∧
          (tallyLeadFlag e = true ↔ (s.line l).state = .solo ∨ (s.line l).state = .lead) ∧ e.flags.toNat < 32)) ∧
    (∀ placed cell x, s.formBody (.stray placed cell x) serial =
      .stray ⟨if placed then 0 else 1, BitVec.ofNat 8 cell.val, x.code, BitVec.ofNat 8 x.origin, x.serial⟩) ∧
    (∀ codes, s.formBody (.census codes) serial = .census codes) ∧
    (∀ command codes, s.formBody (.command command codes) serial = .command ⟨0, command.value, 0, .codes codes⟩) ∧
    (∀ body, s.formBody (.status body) serial = .status body) ∧
    (∀ fault, s.formBody (.fault fault none) serial = .fault ⟨fault.value, 255⟩) ∧
    (∀ fault (cell : Fin 12), s.formBody (.fault fault (some cell)) serial = .fault ⟨fault.value, BitVec.ofNat 8 cell.val⟩)

/-- Every frame of an admitted length is read back from its characters as itself, and lasts 70 bit times plus 10 for each body
character. For every frame whose kind admits the length of its body, with every field at every value its bytes hold: the
characters after the sync characters are judged a good frame, and the frame read from them is that frame. Its row of bits on the
line is 70 plus 10 times its body length, a length of at most 80. (11_frame_and_image_layouts.md, 11.1;
11_frame_and_image_layouts.md, 11.2; 07_frames_reception_and_the_send_queue.md, 7.3) -/
def Obligations.FrameRoundTripThroughTheLine : Prop :=
  ∀ f : Frame, lengthAdmitted f.body = true →
    goodFrame (frameAfterSync f) = some f ∧ (bodyBytes f.body).length = bodyLength f.body ∧ bodyLength f.body ≤ 80 ∧
    (frameBits f).length = 70 + 10 * bodyLength f.body

/-- COLLISION fails the attempt: the frame waits again or is dropped at the sixteenth failure; ATTEMPT_SUCCEEDED takes the frame
here as one heard from the line. With f the one SENDING frame: collisions and f's attempt count rise by 1. Below 16 f is WAITING
again with its age, place and serial; a younger WAITING COUNT or ALERT of the same article, or TALLY, leaves the queue and its
contents go into f. At 16 f leaves the queue and send failures rises; the loss of a COUNT is told to its line. A lost COUNT starts
the claim timer of its article's line at this moment where the line is FOLLOW with lead 0, no COUNT of the article is in the queue
and the claim timer is stopped; else, or where no line holds the article, it changes nothing. Without a frame being sent nothing
changes. With f the one SENDING frame, formed as a frame that the line admits, ATTEMPT_SUCCEEDED answers what the row of that
frame answers from the station without f in its queue, with the frame in assembly and the line at 1 since the last 0 bit of its
last character: counted, its source the last sender, its blocks acting. Without a frame being sent the event changes nothing. How
an attempt ends is told by the row (log entry 21), the count of the 1 bits at a frame's end is log entry 5, and a row without an
attempt changes nothing (log entry 3). (06_aisle_line_access.md, 6.4; 06_aisle_line_access.md, 6.5; 04_article_lines.md, 4.6) -/
def Obligations.AttemptEndsInCollisionOrSuccess : Prop :=
  (∀ (s : State),
     ((∀ f ∈ s.queue, f.phase = .waiting) → exec .collision s = .next s.finish) ∧
     ∀ before f after, s.station = .running ∨ s.station = .unconfigured → s.QueueBounded →
       s.queue = before ++ f :: after → f.phase ≠ .waiting →
       let u : State := { s with counters := { s.counters with collisions := min 65535 (s.counters.collisions + 1) } }
       let f1 : SendFrame := { f with phase := .waiting, attempts := f.attempts + 1 }
       (f.attempts < 15 → (∀ g ∈ before ++ after, sameKind g.content f.content = false) →
         exec .collision s = .next (State.finish { u with queue := before ++ f1 :: after })) ∧
       (∀ between g rest, f.attempts < 15 → after = between ++ g :: rest → sameKind g.content f.content = true →
         (∀ h ∈ before ++ between ++ rest, sameKind h.content f.content = false) →
         exec .collision s = .next (State.finish { u with
           queue := before ++ { f1 with content := mergeContent f.content g.content } :: (between ++ rest) })) ∧
       (f.attempts = 15 →
         let d : State := { u with
           queue := before ++ after
           counters := { u.counters with sendFailures := min 65535 (s.counters.sendFailures + 1) } }
         exec .collision s = .next (match f.content with
           | .count code _ _ => (d.countLost code).finish
           | _ => d.finish))) ∧
  (∀ (s : State) (code : Code),
     (∀ l, (s.line l).state ≠ .vacant → (s.line l).config.code = code →
       (∀ k, (s.line k).state ≠ .vacant → (s.line k).config.code = code → k = l) →
       let Starts := (s.line l).state = .follow ∧ (s.line l).lead = 0 ∧ (s.line l).claimSince = none ∧
         ∀ f ∈ s.queue, ∀ claim part, f.content ≠ .count code claim part
       (Starts → s.countLost code = s.setLine l { s.line l with claimSince := some s.clock }) ∧
       (¬ Starts → s.countLost code = s)) ∧
     ((∀ l, (s.line l).state = .vacant ∨ (s.line l).config.code ≠ code) → s.countLost code = s)) ∧
  (∀ (frame : Frame) (c : Byte), (frameCharacters frame).getLast? = some c →
     onesAtEnd frame ≤ 8 ∧ (∀ i < onesAtEnd frame, c.getLsbD (7 - i) = true) ∧
     (onesAtEnd frame < 8 → c.getLsbD (7 - onesAtEnd frame) = false)) ∧
  ∀ (s : State),
    ((∀ f ∈ s.queue, f.phase = .waiting) → exec .attemptSucceeded s = .next s.finish) ∧
    ∀ before f after frame, s.station = .running ∨ s.station = .unconfigured → s.QueueBounded →
      s.queue = before ++ f :: after → f.phase = .sending frame →
      lengthAdmitted frame.body = true → bodyLength frame.body ≤ 80 →
      ∃ t : State, exec .attemptSucceeded s = .next t ∧
        exec (frameRow frame) { s with
          queue := before ++ after
          lineLow := 0
          access := { s.access with assembly := .assembling, quiet := onesAtEnd frame } } = .next t

/-- A COUNT request merges into the WAITING COUNT of its article; with none waiting it joins the queue as a frame of its own. The
merged frame keeps age, attempts, serial and place; it is claim-only where both were; with one departure part it carries that one;
with two of equal unit weight and tolerance it carries the request's with the units summed and held at 255; with two that differ
it carries the request's whole. Nothing else changes. With no COUNT of the article WAITING, one that is SENDING included, the
request joins as a new frame of attempt count 0 where a slot is empty, and else as a request into a full queue does. (R132) -/
def Obligations.CountRequestsMerge : Prop :=
  ∀ (s : State) (code : Code) (claim : Bool) (part : Option DeparturePart),
    let c : Content := .count code claim part
    (∀ before f after held p, s.queue = before ++ f :: after → f.phase = .waiting → f.content = .count code held p →
      (∀ g ∈ before ++ after, g.phase = .waiting → sameKind g.content c = false) →
      ∃ merged, s.request c = { s with queue := before ++ { f with content := .count code (held && claim) merged } :: after } ∧
        (p = none → merged = part) ∧ (part = none → merged = p) ∧
        ∀ w r, p = some w → part = some r →
          (w.unitWeight = r.unitWeight → w.tolerance = r.tolerance → ∃ units : Byte,
            units.toNat = min 255 (w.units.toNat + r.units.toNat) ∧ merged = some { r with units := units }) ∧
          (w.unitWeight ≠ r.unitWeight ∨ w.tolerance ≠ r.tolerance → merged = some r)) ∧
    ((∀ g ∈ s.queue, g.phase = .waiting → sameKind g.content c = false) →
      (s.queue.length < 4 →
        s.request c = { s with queue := s.queue ++ [⟨c, .waiting, s.nextAge, 0, none⟩], nextAge := s.nextAge + 1 }) ∧
      s.request c = s.joinQueue c)

/-- A TALLY is absorbed and an ALERT replaces the one that waits; every other request joins as a frame of its own. With a TALLY
WAITING a TALLY request changes nothing. With an ALERT of the article WAITING an ALERT request replaces its state, urgency and
reorder level; the frame keeps age, attempts and place, in a full queue as well, and no counter changes. With none WAITING, one
that is SENDING included, both join. A STRAY, CENSUS, COMMAND, STATUS or FAULT request always joins. No request alters a SENDING
frame that stays in the queue, nor counts a merge as a drop. (R133) -/
def Obligations.AlertAndTallyRequestsMergeOthersDoNot : Prop :=
  ∀ (s : State),
    ((∃ f ∈ s.queue, f.phase = .waiting ∧ f.content = .tally) → s.request .tally = s) ∧
    (∀ code raised urgency reorder before f after raised' urgency' reorder',
      s.queue = before ++ f :: after → f.phase = .waiting → f.content = .alert code raised' urgency' reorder' →
      (∀ g ∈ before ++ after, g.phase = .waiting → sameKind g.content f.content = false) →
      s.request (.alert code raised urgency reorder) =
        { s with queue := before ++ { f with content := .alert code raised urgency reorder } :: after }) ∧
    (∀ c : Content, (∀ g ∈ s.queue, g.phase = .waiting → sameKind g.content c = false) → s.request c = s.joinQueue c) ∧
    (∀ g d, (∀ code claim part, d ≠ .count code claim part) → (∀ code r u l, d ≠ .alert code r u l) → d ≠ .tally →
      sameKind g d = false ∧ s.request d = s.joinQueue d) ∧
    (∀ c f, f ∈ s.queue → f.phase ≠ .waiting → s.QueueBounded → f ∈ (s.request c).queue)

/-- A request joins an empty slot; in a full queue it evicts the youngest WAITING frame of the highest class where its own class
is lower, else it is refused. For a request that is not merged, absorbed or a replacement. Below 4 frames it joins as the
youngest. At 4, with h the highest class number among the WAITING frames: below h, the youngest WAITING frame of class h leaves,
SENDING frames staying, and the request joins with its own age; at h or above, it does not join. Either way at 4 send drops rises
by 1 and the loss of a COUNT is told to its line (AttemptEndsInCollisionOrSuccess says what that does; no other kind changes a
line). A request of class 0 finds room unless every WAITING frame is of class 0; one of class 2 is refused. Ages are order numbers
(log entry 14). (07_frames_reception_and_the_send_queue.md, 7.4; 04_article_lines.md, 4.6) -/
def Obligations.FullQueueEvictsOrRefuses : Prop :=
  ∀ (s : State) (c : Content) (h : Nat),
    let Told (t : State) (lost : Content) : State := match lost with
      | .count code _ _ => t.countLost code
      | _ => t
    let Dropped : Counters := { s.counters with sendDrops := min 65535 (s.counters.sendDrops + 1) }
    let New : SendFrame := ⟨c, .waiting, s.nextAge, 0, none⟩
    s.QueueBounded →
      (s.queue.length < 4 → s.joinQueue c = { s with queue := s.queue ++ [New], nextAge := s.nextAge + 1 }) ∧
      (s.queue.length = 4 → (∃ g ∈ s.queue, g.phase = .waiting ∧ contentClass g.content = h) →
        (∀ g ∈ s.queue, g.phase = .waiting → contentClass g.content ≤ h) →
        (∀ before f after, contentClass c < h → s.queue = before ++ f :: after → f.phase = .waiting →
          contentClass f.content = h → (∀ g ∈ after, g.phase = .waiting → contentClass g.content < h) →
          s.joinQueue c =
            Told { s with queue := before ++ after ++ [New], nextAge := s.nextAge + 1, counters := Dropped } f.content) ∧
        (h ≤ contentClass c → s.joinQueue c = Told { s with counters := Dropped } c)) ∧
      (s.queue.length = 4 → contentClass c = 2 → (s.joinQueue c).queue = s.queue) ∧
      (contentClass c = 0 → (∃ g ∈ s.queue, g.phase = .waiting ∧ contentClass g.content ≠ 0) → New ∈ (s.joinQueue c).queue)

/-- RECOUNT and ZERO act on the named cell in REST with its rest mean and are answered DONE; another state or no such cell changes
nothing. Addressed to this RUNNING station with no line JOINING. On a cell in REST with rest mean m, RECOUNT recounts it; ZERO
sets its tray weight to m clamped to 0 to 50,000 g, its baseline to m, its count, balance, strays and two marks to 0, none and
clear, its line following, and asks for a COUNT without a part where the count was not 0 and the line reports; no STRAY is asked
for and the log stays. Each is answered DONE after the cell's change. A used cell in another state is answered NOT-AT-REST; a body
with a list, a number above 11 or an UNUSED cell NO-SUCH-CELL; the station is then changed by the reply alone.
(02_rest_evaluation_and_unit_counts.md, 2.6; 02_rest_evaluation_and_unit_counts.md, 2.7; 08_commands_from_the_line.md, 8.6) -/
def Obligations.RecountAndZeroActOnACellInRest : Prop :=
  ∀ (s t : State) (source target option : Byte) (payload : Payload),
    let u := t.heard source
    let Reply (v : State) (command : CommandCode) (result : ResultCode) : Host.Outcome State Fault Refusal :=
      let w : State := { v with lastCommand := some command, lastResult := some result }
      .next (w.request (.status (w.statusBody command result))).finish
    s.inAssembly = some t → s.station = .running → payload.wf = true → target.toNat = t.number →
    (∀ l : Fin 12, (t.line l).state ≠ .joining) →
      ((∃ list, payload = .codes list) ∨ (∃ n, payload = .cell n ∧ (∀ i : Fin 12, n.toNat = i.val → (t.cell i).state = .unused)) →
        exec (.recount source target option payload) s = Reply u .recount .noSuchCell ∧
        exec (.zero source target option payload) s = Reply u .zero .noSuchCell) ∧
      ∀ (n : Byte) (i : Fin 12), payload = .cell n → n.toNat = i.val →
        let c := t.cell i
        (c.state ≠ .unused → c.state ≠ .rest →
          exec (.recount source target option payload) s = Reply u .recount .notAtRest ∧
          exec (.zero source target option payload) s = Reply u .zero .notAtRest) ∧
        (c.state = .rest →
          exec (.recount source target option payload) s = Reply (u.recountCell i (windowMean c.window)) .recount .done ∧
          ∀ l, c.line = some l →
            let m := windowMean c.window
            let z := (u.setCell i { c with
              tray := max 0 (min 50000 m), baseline := m, balance := 0, strays := [],
              countClamped := false, recountInexact := false }).setCount i 0
            exec (.zero source target option payload) s =
              Reply (if c.count ≠ 0 ∧ (t.line l).reports = true then z.request (.count (t.line l).config.code false none) else z)
                .zero .done)

/-- QUERY answers DONE and clears the counters behind a STATUS that joined; RESTART becomes pending on its STATUS; the STATUS
reports the station as it stands. Addressed to this RUNNING station with no line JOINING, from any source. QUERY sets last command
and last result and asks for the STATUS formed after that; with option 1, and a slot free for the STATUS, the eight counters are
then 0. RESTART with none pending does the same and its mark names the STATUS by its age; a second one asks for nothing and leaves
the mark. A body with a list or a cell number serves both. Where the STATUS is refused the event ends in the restart
(EventEndsInWindowOrRestart). With counters and gaps within their ranges, the STATUS formed for a command and result in RUNNING
holds station state 2, the command's code and the result's code; the eight counters in their order; for each cell its state in
bits 0 to 2, saturated, count clamped, recount inexact and first rest pending in bits 3 to 6 and bit 7 clear; for each line its
INCOMPLETE flag at its bit, bits 12 to 15 clear, and its serial gaps; and 1 or 0 for the image-clamped flag.
(08_commands_from_the_line.md, 8.3; 08_commands_from_the_line.md, 8.5; 08_commands_from_the_line.md, 8.7;
08_commands_from_the_line.md, 8.8; 11_frame_and_image_layouts.md, 11.2) -/
def Obligations.QueryAndRestartAreAnswered : Prop :=
  (∀ (s t : State) (source target option : Byte) (payload : Payload),
     let u := t.heard source
     let Reply (command : CommandCode) : State :=
       let w : State := { u with lastCommand := some command, lastResult := some .done }
       w.request (.status (w.statusBody command .done))
     s.inAssembly = some t → s.station = .running → payload.wf = true → target.toNat = t.number →
     (∀ l : Fin 12, (t.line l).state ≠ .joining) →
       (option = 1 → t.queue.length < 4 → exec (.query source target option payload) s =
         .next (State.finish { Reply .query with counters := ⟨0, 0, 0, 0, 0, 0, 0, 0⟩ })) ∧
       (option ≠ 1 ∨ 4 ≤ t.queue.length → exec (.query source target option payload) s = .next (Reply .query).finish) ∧
       (t.restartPending = none → exec (.restart source target option payload) s =
         .next (State.finish { Reply .restart with restartPending := some t.nextAge })) ∧
       (∀ age, t.restartPending = some age → exec (.restart source target option payload) s =
         .next (State.finish { u with lastCommand := some .restart, lastResult := some .done }))) ∧
  ∀ (s : State) (command : CommandCode) (result : ResultCode),
    let b := s.statusBody command result
    s.station = .running → s.counters.Bounded → (∀ l : Fin 12, (s.line l).serialGaps ≤ 255) →
      b.station = 2 ∧ commandOf b.command = some command ∧ b.result = result.value ∧
      b.counters.toList.map BitVec.toNat = [s.counters.framesTaken, s.counters.badFrames, s.counters.overLength,
        s.counters.filtered, s.counters.unknownArticle, s.counters.collisions, s.counters.sendFailures, s.counters.sendDrops] ∧
      (∀ i : Fin 12, b.cells[i].extractLsb' 0 3 = ((s.cell i).state.value).extractLsb' 0 3 ∧
        b.cells[i].getLsbD 3 = (s.cell i).saturated ∧ b.cells[i].getLsbD 4 = (s.cell i).countClamped ∧
        b.cells[i].getLsbD 5 = (s.cell i).recountInexact ∧ b.cells[i].getLsbD 6 = (s.cell i).firstRest ∧
        b.cells[i].getLsbD 7 = false) ∧
      (∀ l : Fin 12, b.incomplete.getLsbD l.val = (s.line l).incomplete ∧ b.gaps[l].toNat = (s.line l).serialGaps) ∧
      (∀ k, 12 ≤ k → b.incomplete.getLsbD k = false) ∧ (b.clamped = if s.imageClamped then 1 else 0)

/-- A JOINING station answers NOT-READY; unknown codes, other targets and, in UNCONFIGURED, all but RESTART with target 0 change
nothing; that one is a full start. QUERY, RECOUNT, ZERO and RESTART addressed to this RUNNING station while one or more of its
lines are JOINING set last command and last result NOT-READY and ask for a STATUS of it; no cell, counter but frames taken, mark
or line changes and no restart becomes pending. Every COMMAND not for this station is counted and sets the last sender and does no
more. UNKNOWN_COMMAND_CODE changes nothing in RUNNING and in UNCONFIGURED. A RUNNING station ignores a station command whose
target is not its number, RESTART with target 0 included. An UNCONFIGURED station ignores every command but RESTART with target 0,
at which it begins the full start at once: every value is that of reset but for the memory, the level of the aisle line and the
waiting commands (log entry 11 names the values that the spec leaves open). (08_commands_from_the_line.md, 8.1;
08_commands_from_the_line.md, 8.2; 08_commands_from_the_line.md, 8.3; 08_commands_from_the_line.md, 8.4) -/
def Obligations.CommandsNotReadyOrNotForThisStation : Prop :=
  (∀ (s t : State) (source target option : Byte) (payload : Payload),
     let u := t.heard source
     let Reply (command : CommandCode) : Host.Outcome State Fault Refusal :=
       let w : State := { u with lastCommand := some command, lastResult := some .notReady }
       .next (w.request (.status (w.statusBody command .notReady))).finish
     s.inAssembly = some t → s.station = .running → payload.wf = true → target.toNat = t.number →
     (∃ l : Fin 12, (t.line l).state = .joining) →
       exec (.query source target option payload) s = Reply .query ∧
       exec (.recount source target option payload) s = Reply .recount ∧
       exec (.zero source target option payload) s = Reply .zero ∧
       exec (.restart source target option payload) s = Reply .restart) ∧
  ∀ (s t : State) (source target code option : Byte) (payload : Payload),
    let Ignored (c : Instr) : Prop := exec c s = .next (t.heard source).finish
    s.inAssembly = some t → payload.wf = true →
      (commandOf code = none → Ignored (.unknownCommandCode source target code option payload)) ∧
      (s.station = .running → target.toNat ≠ t.number →
        Ignored (.query source target option payload) ∧ Ignored (.recount source target option payload) ∧
        Ignored (.zero source target option payload) ∧ Ignored (.restart source target option payload)) ∧
      (s.station = .unconfigured →
        Ignored (.ack source target option payload) ∧ Ignored (.restockBegin source target option payload) ∧
        Ignored (.restockEnd source target option payload) ∧ Ignored (.query source target option payload) ∧
        Ignored (.recount source target option payload) ∧ Ignored (.zero source target option payload) ∧
        (target ≠ 0 → Ignored (.restart source target option payload)) ∧
        (target = 0 → exec (.restart source target option payload) s = .next { State.reset with
          eeprom := s.eeprom, lineLow := s.lineLow, pending := s.pending }))

/-- A press shorter than 1 s asks for RESTOCK-END or RESTOCK-BEGIN, one held 3 s for ACK, of this station's lines by their records
as they stand. In RUNNING. A change of the key stands at least 20 ms behind the entry to RUNNING and the change before it.
KEY_PRESS_BEGIN begins a press at that moment unless the unit waits for the key to be open or a press is under way. KEY_RELEASE
ends the wait, or the press: below 1 s and not classified, with any RESTOCKING record it asks for a COMMAND RESTOCK-END of those
articles, else with any RAISED or HELD one for RESTOCK-BEGIN of those, in line index order, VACANT lines left out; at 1 s or more,
classified, or with no such record it asks for nothing. LONG_PRESS classifies the press once and asks for ACK of the RAISED
articles, or nothing. No record changes. Outside RUNNING the key is not read: no press begins or ends and nothing is asked for.
LONG_PRESS with no press under way asks for nothing. That these rows carry the clock to their moment, and that a row whose event
cannot occur changes nothing, are the model's choices (log entries 1 and 3); the settling of the key is log entry 16.
(09_lamps_and_the_staff_key.md, 9.4) -/
def Obligations.KeyPressesAskForCommands : Prop :=
  ∀ (s : State),
    let Codes (p : AlertState → Bool) : List Code :=
      (allTwelve.filter (fun l => (s.line l).state != .vacant && p (s.line l).alert.state)).map (fun l => (s.line l).config.code)
    let Asked (t : State) (command : CommandCode) (codes : List Code) : State :=
      if codes = [] then t else t.request (.command command codes)
    let now := max s.clock (s.key.readFrom + 2000)
    let opened : State := { s with clock := now, key := ⟨false, now, none⟩ }
    (s.station = .running →
      (s.key.press = none → s.key.awaitOpen = false →
        exec .keyPressBegin s = .next { s with clock := now, key := ⟨false, now, some ⟨now, false⟩⟩ } ∧
        exec .keyRelease s = .next s.finish) ∧
      (s.key.press = none → s.key.awaitOpen = true →
        exec .keyPressBegin s = .next { s with clock := now, key := ⟨true, now, none⟩ } ∧
        exec .keyRelease s = .next opened.finish) ∧
      (s.key.press ≠ none → exec .keyPressBegin s = .next s) ∧
      (∀ since, s.key.press = some ⟨since, true⟩ ∨ (s.key.press = some ⟨since, false⟩ ∧ since + 100000 ≤ now) →
        exec .keyRelease s = .next opened.finish) ∧
      (∀ since, s.key.press = some ⟨since, false⟩ → now < since + 100000 →
        let restocking := Codes (· == .restocking)
        let raised := Codes (fun x => x == .raised || x == .held)
        exec .keyRelease s = .next (State.finish (Asked opened
          (if restocking = [] then .restockBegin else .restockEnd) (if restocking = [] then raised else restocking)))) ∧
      (∀ since, s.key.press = some ⟨since, false⟩ →
        exec .longPress s = .next (State.finish (Asked
          { s with clock := max s.clock (since + 300000), key := { s.key with press := some ⟨since, true⟩ } }
          .ack (Codes (· == .raised))))) ∧
      (∀ since, s.key.press = some ⟨since, true⟩ → exec .longPress s = .next s.finish)) ∧
    (s.station ≠ .running →
      exec .keyPressBegin s = .next s ∧ exec .keyRelease s = .next s.finish ∧ exec .longPress s = .next s.finish) ∧
    (s.key.press = none → exec .longPress s = .next s.finish)

/-- A used cell's lamp in RUNNING shows the pattern of the first row that holds; other states fix all lamps; lamps of one pattern
are lit and dark together. In RUNNING, for a used cell of line l: FAULT, UNSTEADY or a balance not 0 shows double flash; else a
stray the fast blink; else RAISED or HELD with urgency 2 or 3 steady; else with urgency 1 the slow blink; else off, in WARMING,
MOTION and REST alike. An UNUSED cell's lamp is off. In UNCONFIGURED all show the double flash; in LOADING, BROWNOUT and without
supply all are off. At every moment, with p the bit times of 10 µs since the station clock's last whole second: the double flash
is lit from 0 to 100 ms and from 200 to 300 ms, the fast blink from 0 to 125, 250 to 375, 500 to 625 and 750 to 875 ms, the slow
blink from 0 to 500 ms, each range with both its ends, steady always and off never. Two lamps with one pattern agree at every
moment. That the lamp clock is the station clock is log entry 18. (09_lamps_and_the_staff_key.md, 9.1;
09_lamps_and_the_staff_key.md, 9.2; 09_lamps_and_the_staff_key.md, 9.3) -/
def Obligations.LampShowsTheFirstRowThatHolds : Prop :=
  (∀ (s : State) (i l : Fin 12),
     let c := s.cell i
     let r := (s.line l).alert
     let Flashes := c.state = .fault ∨ c.state = .unsteady ∨ c.balance ≠ 0
     let Stands := r.state = .raised ∨ r.state = .held
     (s.station = .running → c.state ≠ .unused → c.line = some l → r.urgency ≤ 3 →
       (Flashes → s.lampPattern i = .doubleFlash) ∧
       (¬ Flashes → c.strays ≠ [] → s.lampPattern i = .fastBlink) ∧
       (¬ Flashes → c.strays = [] → Stands → r.urgency = 2 ∨ r.urgency = 3 → s.lampPattern i = .steady) ∧
       (¬ Flashes → c.strays = [] → Stands → r.urgency = 1 → s.lampPattern i = .slowBlink) ∧
       (¬ Flashes → c.strays = [] → ¬ Stands ∨ r.urgency = 0 → s.lampPattern i = .off)) ∧
     (s.station = .running → c.state = .unused → s.lampPattern i = .off) ∧
     (s.station = .unconfigured → s.lampPattern i = .doubleFlash) ∧
     (s.station = .loading ∨ s.station = .brownout ∨ s.station = .off → s.lampPattern i = .off)) ∧
  ∀ (s : State) (i j : Fin 12),
    let p := s.clock % 100000
    (s.lampPattern i = .doubleFlash → (s.lampLit i = true ↔ p ≤ 10000 ∨ (20000 ≤ p ∧ p ≤ 30000))) ∧
    (s.lampPattern i = .fastBlink → (s.lampLit i = true ↔
      p ≤ 12500 ∨ (25000 ≤ p ∧ p ≤ 37500) ∨ (50000 ≤ p ∧ p ≤ 62500) ∨ (75000 ≤ p ∧ p ≤ 87500))) ∧
    (s.lampPattern i = .steady → s.lampLit i = true) ∧
    (s.lampPattern i = .slowBlink → (s.lampLit i = true ↔ p ≤ 50000)) ∧
    (s.lampPattern i = .off → s.lampLit i = false) ∧
    (s.lampPattern i = s.lampPattern j → s.lampLit i = s.lampLit j)

/-- POWER_ON is the full start from any state: all but the memory, the line's level and the waiting commands has its reset value;
SUPPLY_FAILURE ends every state. POWER_ON answers LOADING with an empty queue, log, maps, stray lists and hash table, all
counters, serials, runs and the last sender 0, the clock stopped at 0, every line VACANT, every cell UNUSED, no command answered
and no restart pending. SUPPLY_FAILURE answers the same blank station without supply; that it stands blank until the next POWER_ON
is the model's choice (log entry 10), and so are the clock's 0 and the other values to which the spec gives no reset value (log
entry 11). (10_start_up_configuration_image_and_supply_monitor.md, 10.1; 10_start_up_configuration_image_and_supply_monitor.md,
10.8) -/
def Obligations.PowerOnAndSupplyFailure : Prop :=
  ∀ s : State,
    let blank : State := { State.reset with eeprom := s.eeprom, lineLow := s.lineLow, pending := s.pending }
    exec .powerOn s = .next blank ∧ exec .supplyFailure s = .next { blank with station := .off } ∧
    blank.station = .loading ∧ blank.queue = [] ∧ blank.log = [] ∧ blank.hashTable = 0 ∧ blank.clock = 0 ∧
    blank.departureSerial = 0 ∧ blank.access.lastSender = 0 ∧ blank.counters = ⟨0, 0, 0, 0, 0, 0, 0, 0⟩ ∧
    blank.supply = ⟨0, 0⟩ ∧ blank.lastCommand = none ∧ blank.lastResult = none ∧ blank.restartPending = none ∧
    blank.imageClamped = false ∧ blank.census = .none ∧
    (∀ i : Fin 12, (blank.cell i).state = .unused ∧ (blank.cell i).count = 0 ∧ (blank.cell i).baseline = 0 ∧
      (blank.cell i).tray = 0 ∧ (blank.cell i).balance = 0 ∧ (blank.cell i).strays = [] ∧ (blank.cell i).window = [] ∧
      (blank.cell i).firstRest = false) ∧
    (∀ l : Fin 12, (blank.line l).state = .vacant ∧ (blank.line l).map = [] ∧ (blank.line l).ownCount = 0 ∧
      (blank.line l).serial = 0 ∧ (blank.line l).serialGaps = 0 ∧ (blank.line l).incomplete = false ∧
      (blank.line l).lead = 0 ∧ (blank.line l).alert = ⟨.clear, 0, none, false, none⟩)

/-- EEPROM_NO_ANSWER counts failures in a row; the third ends the load with EEPROM-SILENT in UNCONFIGURED without a number. In
LOADING with a load in progress: a failure raises the run where the memory has answered no addressing since the failure before;
where it has, as its operand tells, or as the read stands at another byte, it begins a run of 1 (log entry 9). Below 3 nothing
else changes. At 3 the station is UNCONFIGURED with number 0, the clock at 0, the first fault minute at 60 s, the receiver on with
the line taken as busy and the last sender 0, and a FAULT of EEPROM-SILENT without a cell asked for. Outside LOADING, or with the
load abandoned, nothing changes. That the rows change nothing elsewhere is the model's choice (log entries 3 and 29).
(10_start_up_configuration_image_and_supply_monitor.md, 10.2; 10_start_up_configuration_image_and_supply_monitor.md, 10.5) -/
def Obligations.ThirdSilentAddressingEndsTheLoad : Prop :=
  ∀ (s : State) (position : Nat) (answered : Bool),
    let run := if answered = false ∧ position = s.loader.position then s.loader.noAnswers + 1 else 1
    (s.station = .loading → s.loader.abandoned = false →
      (run < 3 → exec (.eepromNoAnswer ⟨position, answered⟩) s = .next { s with loader := ⟨run, position, false⟩ }) ∧
      (3 ≤ run → exec (.eepromNoAnswer ⟨position, answered⟩) s =
        .next (State.request { s with
          station := .unconfigured, number := 0, clock := 0, faultAt := 6000000, loadFault := some .eepromSilent
          access := ⟨false, 0, 0, .waitIdle, none⟩ } (.fault .eepromSilent none)))) ∧
    (s.station ≠ .loading ∨ s.loader.abandoned = true → exec (.eepromNoAnswer ⟨position, answered⟩) s = .next s)

/-- The records pass the structural checks exactly when cells and codes are distinct, every index names an article and every
article has 1 to 4 cells. For every image: the checks pass if and only if every cell number lies within 0 to 11, no two cell
records have one cell number, every article index is below the article count, no two article records have one code, and every
article record is named by 1 to 4 cell records. The hash bits of codes and the neighbour places play no part, and the checks are
made on the values before the clamps. An image whose earlier checks pass and whose records fail ends the load with IMAGE-STRUCTURE
under its own number. (R159) -/
def Obligations.StructuralChecksOfTheRecords : Prop :=
  (∀ i : Image, structureHolds i = true ↔
    (∀ c ∈ i.cells, c.cell ≤ 11) ∧ (i.cells.map ImageCell.cell).Nodup ∧ (∀ c ∈ i.cells, c.article < i.articles.length) ∧
    (i.articles.map ArticleRecord.code).Nodup ∧
    ∀ k < i.articles.length, 1 ≤ (i.cells.filter (fun c => c.article = k)).length ∧
      (i.cells.filter (fun c => c.article = k)).length ≤ 4) ∧
  ∀ m : Memory,
    let a := Memory.u8 m 13 / 16
    let c := Memory.u8 m 13 % 16
    let i := readImage m (a + 1) (c + 1)
    Memory.u8 m 0 = 0x2E → a ≤ 11 → c ≤ 11 → imageCrcAgrees m (a + 1) (c + 1) = true → 1 ≤ i.number → i.number ≤ 30 →
      (structureHolds i = false → checkImage m = .failed .imageStructure i.number) ∧
      (structureHolds i = true → checkImage m = .passed i)

/-- The checks of a load are made in order: format mark and counts, CRC, station number; the first that fails gives the fault and
no number. A format mark other than 2E hex or a count above 11 gives IMAGE-STRUCTURE; else a CRC over header and records that
differs from the image's gives IMAGE-CRC; else a station number outside 1 to 30 gives IMAGE-STATION; each without a valid number.
An erased memory gives IMAGE-STRUCTURE. (10_start_up_configuration_image_and_supply_monitor.md, 10.3) -/
def Obligations.EarlierChecksDecideTheFault : Prop :=
  (∀ m : Memory,
    let a := Memory.u8 m 13 / 16
    let c := Memory.u8 m 13 % 16
    let size := 14 + 16 * (a + 1) + 8 * (c + 1)
    let Agrees := (crc16 (Memory.bytes m 0 size)).toNat = 256 * Memory.u8 m size + Memory.u8 m (size + 1)
    (Memory.u8 m 0 ≠ 0x2E → checkImage m = .failed .imageStructure 0) ∧
    (Memory.u8 m 0 = 0x2E →
      (11 < a ∨ 11 < c → checkImage m = .failed .imageStructure 0) ∧
      (a ≤ 11 → c ≤ 11 →
        (¬ Agrees → checkImage m = .failed .imageCrc 0) ∧
        (Agrees → Memory.u8 m 1 = 0 ∨ 30 < Memory.u8 m 1 → checkImage m = .failed .imageStation 0)))) ∧
  checkImage [] = .failed .imageStructure 0

/-- Clamping brings every field of Table 10-2 into its range, changes none that lies in it, and the flag tells whether one
changed. Event threshold, settle band, motion limit and stray window, unit weight, reorder level, clear margin and restock limit,
and tray weight are clamped to their ranges; a gain of 0 becomes 1; the tolerance is clamped to 5 to a quarter, rounded down, of
the clamped unit weight; a neighbour place of 31 or more becomes 0. Station number, codes, reminder intervals, cell numbers,
article indexes and zero offsets stay. The flag is set exactly where a value changed; loading sets it, and the station runs on the
clamped values (LoadEndsInRunning). (R160) -/
def Obligations.ImageIsClampedIntoItsRanges : Prop :=
  ∀ i : Image,
    let C (lo hi v : Nat) : Nat := max lo (min hi v)
    let j := clampImage i
    j.number = i.number ∧ j.places = i.places.map (fun p => if 31 ≤ p then 0 else p) ∧
    j.eventThreshold = C 20 2000 i.eventThreshold ∧ j.settleBand = C 2 200 i.settleBand ∧
    j.motionLimit = C 5 120 i.motionLimit ∧ j.strayWindow = C 1 60 i.strayWindow ∧
    j.articles = i.articles.map (fun a =>
      let u := C 50 60000 a.unitWeight
      ⟨a.code, u, C 5 (u / 4) a.tolerance, min 9999 a.reorder, C 1 999 a.margin, a.reminderMinutes, C 5 240 a.restockMinutes⟩) ∧
    j.cells = i.cells.map (fun c => ⟨c.cell, c.article, c.zeroOffset, if c.gain = 0 then 1 else c.gain, min 50000 c.tray⟩) ∧
    (imageClampedBy i = true ↔ j ≠ i) ∧ clampImage j = j

/-- IMAGE_LOAD_END of an image that fails a check ends in UNCONFIGURED with its fault and asks for its FAULT frame; each minute
asks for another. In LOADING with a load in progress, the memory of the load is kept and a failed image leaves every cell UNUSED
and every line VACANT as LOADING had them, with the number of the check, 0 where none is valid, the clock at 0, the first fault
minute at 60 s, the line taken as busy, and a FAULT with the check's code and no cell asked for. UNCONFIGURED_FAULT_MINUTE asks
for it again, the clock at that minute and the next one 60 s on. Outside, or with the load abandoned, the rows change nothing. The
bytes as an operand, the clock carried to the minute and the rows that change nothing are the model's choices (log entries 1, 3
and 8). (10_start_up_configuration_image_and_supply_monitor.md, 10.3; 10_start_up_configuration_image_and_supply_monitor.md, 10.5)
-/
def Obligations.FailedLoadIsUnconfigured : Prop :=
  ∀ (s : State) (image : List Byte) (fault : FaultCode) (number : Nat),
    (s.station = .loading → s.loader.abandoned = false → checkImage (Memory.ofBytes image) = .failed fault number →
      exec (.imageLoadEnd image) s =
        .next (State.request { s with
          eeprom := Memory.ofBytes image, station := .unconfigured, number := number, clock := 0, faultAt := 6000000
          loadFault := some fault, access := ⟨false, 0, 0, .waitIdle, none⟩ } (.fault fault none))) ∧
    (s.station ≠ .loading ∨ s.loader.abandoned = true → exec (.imageLoadEnd image) s = .next s) ∧
    (s.station = .unconfigured → s.loadFault = some fault →
      exec .unconfiguredFaultMinute s =
        .next (State.request { s with clock := max s.clock s.faultAt, faultAt := s.faultAt + 6000000 } (.fault fault none))) ∧
    (s.station ≠ .unconfigured → exec .unconfiguredFaultMinute s = .next s)

/-- IMAGE_LOAD_END of an image that passes builds the station from the clamped image and enters RUNNING with its CENSUS asked for.
With i the image and j the clamped image: number, neighbour set and parameters are j's, the flag says whether a clamp changed a
value, the clock is 0, the rotation stands at input 0, the line is taken as busy and the first TALLY phase is at number times 2 s.
Line k holds article record k, its cells in rising order, JOINING, or is VACANT beyond the records. A cell that a record names is
WARMING with 32 conversions, its first rest pending, with that record's article, calibration and tray weight; every other is
UNUSED. A hash bit is set exactly where a code of the image has it. The CENSUS of the codes, in order, is asked for. The bytes are
the operand of the row, and the key unit waits for the key to be open (log entries 8 and 16).
(10_start_up_configuration_image_and_supply_monitor.md, 10.4; 10_start_up_configuration_image_and_supply_monitor.md, 10.6) -/
def Obligations.LoadEndsInRunning : Prop :=
  ∀ (s : State) (image : List Byte) (i : Image),
    let j := clampImage i
    s.station = .loading → s.loader.abandoned = false → checkImage (Memory.ofBytes image) = .passed i →
      ∃ t : State, exec (.imageLoadEnd image) s = .next (t.request (.census (j.articles.map ArticleRecord.code))) ∧
        t.eeprom = Memory.ofBytes image ∧ t.station = .running ∧ t.number = i.number ∧
        t.neighbours = j.places.filter (fun p => p ≠ 0) ∧ t.eventThreshold = j.eventThreshold ∧ t.settleBand = j.settleBand ∧
        t.motionLimit = j.motionLimit ∧ t.strayWindow = j.strayWindow ∧ (t.imageClamped = true ↔ j ≠ i) ∧
        t.clock = 0 ∧ t.rotation = 0 ∧ t.tallyAt = i.number * 200000 ∧ t.census = .queued ∧
        t.access = ⟨false, 0, 0, .waitIdle, none⟩ ∧ t.key = ⟨true, 0, none⟩ ∧ t.lineLow = s.lineLow ∧
        t.queue = s.queue ∧ t.counters = s.counters ∧ t.log = s.log ∧ t.departureSerial = s.departureSerial ∧
        t.lastCommand = s.lastCommand ∧ t.lastResult = s.lastResult ∧ t.restartPending = s.restartPending ∧
        t.supply = s.supply ∧ t.pending = s.pending ∧
        (∀ l : Fin 12, j.articles[l.val]? = none → t.line l = .blank) ∧
        (∀ (l : Fin 12) a, j.articles[l.val]? = some a → t.line l = { ArticleLine.blank with
          state := .joining
          config := ⟨a.code, a.unitWeight, a.tolerance, a.reorder, a.margin, a.reminderMinutes, a.restockMinutes,
            allTwelve.filter (fun k => ∃ c ∈ j.cells, c.cell = k.val ∧ c.article = l.val)⟩ }) ∧
        (∀ k : Fin 12, (∀ c ∈ j.cells, c.cell ≠ k.val) → t.cell k = .blank) ∧
        (∀ (k l : Fin 12) c, c ∈ j.cells → c.cell = k.val → c.article = l.val →
          t.cell k = { CellRecord.blank with
            state := .warming, line := some l, zeroOffset := c.zeroOffset, gain := c.gain, tray := c.tray
            warmUp := 32, firstRest := true }) ∧
        ∀ b : Nat, b < 64 → (t.hashTable.getLsbD b = true ↔ ∃ a ∈ j.articles, hashIndex a.code = b)

/-- The second low sample in a row takes RUNNING into BROWNOUT, the second good one back, with every used cell WARMING; in LOADING
they abandon and begin the load. In RUNNING: a good sample sets the low run to 0 and raises the good run, holding at 2; a low one
the other way round. The sample that brings the low run to 2 enters BROWNOUT: a frame being sent is cut: where it is in assembly
here it raises bad frames, and its attempt fails without a collision: below 16 it waits again, taking in a younger WAITING COUNT
or ALERT of its article or a TALLY, at 16 it is dropped and the loss of a COUNT is told to its line; the receiver and assembly are
off with the last sender kept; a key press is abandoned; the low run is 0; the cells, the rotation, log, lines but that claim
timer, clock, counters but bad frames and send failures of a cut frame, the other frames, last command and pending restart stay.
BROWNOUT returns to RUNNING at the sample that brings the good run to 2: every used cell enters WARMING with 8 conversions and an
empty window, keeping its count, baseline, tray, balance, strays and other marks; the line is taken as busy, the last sender is 0,
the key is waited for to be open, the good run is 0, and the clock, log, lines, queue and counters stay. In LOADING the second low
sample abandons the load; the second good one after that begins it from the first addressing. UNCONFIGURED only counts. Without
supply nothing changes. That a sample without supply changes nothing is the model's choice (log entry 3), and so are the moment at
which a cut frame counts as bad and the last sender behind it (log entry 31).
(10_start_up_configuration_image_and_supply_monitor.md, 10.2; 10_start_up_configuration_image_and_supply_monitor.md, 10.7;
06_aisle_line_access.md, 6.2; 06_aisle_line_access.md, 6.6; 01_weighing_channels.md, 1.9) -/
def Obligations.SupplySamplesDecide : Prop :=
  (∀ (s : State), s.station = .running →
     (exec (.supplySample false) s = .next (State.finish { s with supply := ⟨0, min 2 (s.supply.goodRun + 1)⟩ })) ∧
     (s.supply.lowRun ≠ 1 →
       exec (.supplySample true) s = .next (State.finish { s with supply := ⟨min 2 (s.supply.lowRun + 1), 0⟩ })) ∧
     (s.supply.lowRun = 1 →
       let Dark (t : State) : State := { t with
         station := .brownout
         access := ⟨false, 0, s.access.lastSender, .waitIdle, none⟩
         key := { s.key with press := none }
         supply := ⟨0, 0⟩ }
       ((∀ f ∈ s.queue, f.phase = .waiting) → exec (.supplySample true) s = .next (Dark s).finish) ∧
       let u : State := { s with counters := { s.counters with
         badFrames := if s.access.assembly = .assembling then min 65535 (s.counters.badFrames + 1) else s.counters.badFrames } }
       ∀ before f after, s.QueueBounded → s.queue = before ++ f :: after → f.phase ≠ .waiting →
         (f.attempts < 15 → (∀ g ∈ before ++ after, sameKind g.content f.content = false) →
           exec (.supplySample true) s = .next (Dark { u with
             queue := before ++ { f with phase := .waiting, attempts := f.attempts + 1 } :: after }).finish) ∧
         (∀ between g rest, f.attempts < 15 → after = between ++ g :: rest → sameKind g.content f.content = true →
           (∀ h ∈ before ++ between ++ rest, sameKind h.content f.content = false) →
           exec (.supplySample true) s = .next (Dark { u with
             queue := before ++ { f with
               phase := .waiting, attempts := f.attempts + 1, content := mergeContent f.content g.content } ::
                 (between ++ rest) }).finish) ∧
         (f.attempts = 15 →
           let d : State := { u with
             queue := before ++ after
             counters := { u.counters with sendFailures := min 65535 (s.counters.sendFailures + 1) } }
           exec (.supplySample true) s = .next (match f.content with
             | .count code _ _ => (Dark (d.countLost code)).finish
             | _ => (Dark d).finish)))) ∧
  ∀ (s : State) (low : Bool),
    let runs : Supply := if low then ⟨min 2 (s.supply.lowRun + 1), 0⟩ else ⟨0, min 2 (s.supply.goodRun + 1)⟩
    (s.station = .unconfigured → exec (.supplySample low) s = .next (State.finish { s with supply := runs })) ∧
    (s.station = .off → exec (.supplySample low) s = .next s.finish) ∧
    (s.station = .brownout →
      (low = true ∨ s.supply.goodRun ≠ 1 → exec (.supplySample low) s = .next (State.finish { s with supply := runs })) ∧
      (low = false → s.supply.goodRun = 1 →
        exec (.supplySample low) s = .next (State.finish { s with
          station := .running
          cells := s.cells.map (fun c => if c.state = .unused then c else
            { c with state := .warming, window := [], saturated := false, faultRun := 0, motionCount := 0, warmUp := 8 })
          access := ⟨false, 0, 0, .waitIdle, none⟩
          key := ⟨true, s.clock, none⟩
          supply := ⟨0, 0⟩ }))) ∧
    (s.station = .loading →
      (low = true → s.supply.lowRun = 1 → exec (.supplySample low) s =
        .next (State.finish { s with supply := runs, loader := { s.loader with abandoned := true } })) ∧
      (low = false → s.supply.goodRun = 1 → s.loader.abandoned = true → exec (.supplySample low) s =
        .next (State.finish { s with supply := runs, loader := ⟨0, 0, false⟩ })) ∧
      ((low = true → s.supply.lowRun ≠ 1) → (low = false → s.supply.goodRun ≠ 1 ∨ s.loader.abandoned = false) →
        exec (.supplySample low) s = .next (State.finish { s with supply := runs })))

/-- A step carries out the command at the front of the queue; where none waits it queues the commands whose moment has come, or
lets one bit time pass. For every command c and every rest, a step of a station whose queue is c followed by the rest is exec of c
on the station with the rest as its queue. With an empty queue a step puts the commands whose moment has come into the queue, and
where there is none one bit time passes: the clock counts it but in LOADING and without supply, the line has one bit time less at
0, the round in progress is one older, and the quiet count of a busy line at 1 counts it up to 20 while this station sends
nothing. A command is among those whose moment has come exactly where: its timer has run its length, its phase, minute or expiry
is reached, the quiet count is 20, the round is as old as its next slot (slot 0 at the moment of idle), or slot 95 has ended; each
in the station states in which it runs. The queue, the bit time and the order of the commands of one moment are the model's (log
entry 2). No row of the table has bits, so withFetchWord changes nothing. (00_scope.md, Conventions; 06_aisle_line_access.md, 6.1;
06_aisle_line_access.md, 6.3) -/
def Obligations.StepRunsFrontCommand : Prop :=
  ∀ (s : State) (c : Instr) (rest : List Instr),
    let On := s.station = .running ∨ s.station = .unconfigured
    let Silent := ∀ f ∈ s.queue, f.phase = .waiting
    let Ran (since : Option Nat) (length : Nat) : Prop := ∃ t, since = some t ∧ t + length ≤ s.clock
    let OfLine (r : Round) : Prop :=
      (c = .contentionSlot r.next ∧ r.next < 96 ∧ 20 * r.next ≤ r.elapsed) ∨
      (c = .roundRepeat ∧ s.access.idle = true ∧ 96 ≤ r.next ∧ 1920 ≤ r.elapsed)
    let OfArticle (l : Fin 12) (a : ArticleLine) : Prop :=
      (∃ e ∈ a.map, (c = .entryStale l e.station ∧ e.stale = false ∧ e.heardAt + 18000000 ≤ s.clock) ∨
        (c = .entryRemoved l e.station ∧ e.stale = true ∧ e.heardAt + 60000000 ≤ s.clock)) ∨
      (c = .leadTimerExpiry l ∧ Ran a.leadSince 18000000) ∨
      (c = .claimTimerExpiry l ∧ Ran a.claimSince (s.number * 25000)) ∨
      (c = .startHoldExpiry l ∧ Ran a.holdSince 1000000) ∨
      (c = .reminderTimerExpiry l ∧ Ran a.alert.reminderSince (a.config.reminderMinutes * 6000000)) ∨
      (c = .restockTimerExpiry l ∧ Ran a.alert.restockSince (a.config.restockMinutes * 6000000))
    (s.pending = c :: rest → step s = exec c { s with pending := rest }) ∧
    (s.pending = [] → s.due ≠ [] → step s = .next { s with pending := s.due }) ∧
    (s.pending = [] → s.due = [] → step s = .next { s with
      clock := if s.station = .loading ∨ s.station = .off then s.clock else s.clock + 1
      lineLow := s.lineLow - 1
      access := { s.access with
        quiet := if On ∧ s.access.idle = false ∧ Silent ∧ s.lineLow = 0 then min 20 (s.access.quiet + 1) else s.access.quiet
        round := s.access.round.map (fun r => ⟨r.next, r.elapsed + 1⟩) } }) ∧
    (c ∈ s.due ↔
      (c = .unconfiguredFaultMinute ∧ s.station = .unconfigured ∧ s.loadFault ≠ none ∧ s.faultAt ≤ s.clock) ∨
      (On ∧ ((c = .lineIdle ∧ s.access.idle = false ∧ Silent ∧ 20 ≤ s.access.quiet) ∨
        ∃ r, s.access.round = some r ∧ OfLine r)) ∨
      ((s.station = .running ∨ s.station = .brownout) ∧
        ((c = .departureExpiry ∧ ∃ e ∈ s.log, e.enteredAt + s.strayWindow * 6000000 ≤ s.clock) ∨
          (c = .censusWindowEnd ∧ ∃ t, s.census = .window t ∧ t + 200000 ≤ s.clock) ∨
          (c = .joiningLimit ∧ ∃ t, s.census = .ended t ∧ t + 6000000 ≤ s.clock ∧ ∃ l, (s.line l).state = .joining) ∨
          (c = .tallyPhase ∧ s.tallyAt ≤ s.clock) ∨ (∃ l, OfArticle l (s.line l)) ∨
          (c = .longPress ∧ s.station = .running ∧ ∃ t, s.key.press = some ⟨t, false⟩ ∧ t + 300000 ≤ s.clock)))) ∧
    ∀ nbits w, s.withFetchWord nbits w = s

/-- Every command answers a next state in every state; it keeps the waiting commands, and all but IMAGE_LOAD_END keep the
configuration memory. For every command, well formed or not, and every state there is a next state: no command ends in a fault or
a refusal. The commands that wait are those that waited. The configuration memory is what the last load read: every command but
IMAGE_LOAD_END keeps it, and IMAGE_LOAD_END replaces it by the bytes of the load or keeps it. That no command ends in a fault or a
refusal is read from the spec (log entry 22), with what an event that cannot occur and an ill-formed operand do (log entries 3 and
7); that the memory is the operand of the load is log entry 8. (00_scope.md, Conventions;
10_start_up_configuration_image_and_supply_monitor.md, 10.2) -/
def Obligations.EveryCommandAnswersNext : Prop :=
  ∀ (c : Instr) (s : State), ∃ t : State, exec c s = .next t ∧ t.pending = s.pending ∧
    (t.eeprom = s.eeprom ∨ ∃ image, c = .imageLoadEnd image ∧ s.station = .loading ∧ t.eeprom = Memory.ofBytes image)

/-- At an event's end the census window opens where the CENSUS has left the queue, and the full start begins where the STATUS of a
pending restart has. While the restart mark is clear or its STATUS is in the queue: a census whose CENSUS has left the queue has
its window start at this moment, and nothing else changes. Where the STATUS that the mark names is not in the queue, sent,
dropped, evicted or refused, the station begins the full start. So ATTEMPT_SUCCEEDED of that STATUS answers the full start, with
the line at 1 as its last stop bit has left it. The full start keeps the memory, the level of the aisle line and the waiting
commands. That both are seen at the end of the event is log entry 15; the values of reset to which the spec gives none are log
entry 11. (07_frames_reception_and_the_send_queue.md, 7.4; 08_commands_from_the_line.md, 8.7;
10_start_up_configuration_image_and_supply_monitor.md, 10.6) -/
def Obligations.EventEndsInWindowOrRestart : Prop :=
  ∀ (s : State),
    let blank : State := { State.reset with eeprom := s.eeprom, lineLow := s.lineLow, pending := s.pending }
    let Held := s.restartPending = none ∨ ∃ f ∈ s.queue, s.restartPending = some f.age
    let Gone := s.census = .queued ∧ ∀ f ∈ s.queue, ∀ codes, f.content ≠ .census codes
    (Held → Gone → s.finish = { s with census := .window s.clock }) ∧
    (Held → ¬ Gone → s.finish = s) ∧
    (¬ Held → s.finish = blank) ∧
    ∀ before f after frame body, s.station = .running → s.QueueBounded → s.queue = before ++ f :: after →
      f.phase = .sending frame → frame.body = .status body → s.restartPending = some f.age →
      exec .attemptSucceeded s = .next { blank with lineLow := 0 }

/-- The station state changes by the rows of Table 10-3 and by no other command, and not while no command waits. For every
well-formed command and every state in which a restart is pending in RUNNING or BROWNOUT alone (RestartAndRangesAreKept): where
the station state changes, the command is a power-on, a supply failure, a load that ends by its checks or by the third silent
addressing, the second low sample in RUNNING, the second good one in BROWNOUT; or the full start begins from RUNNING or BROWNOUT
with a restart pending, by a RESTART addressed to the RUNNING station, by one with target 0 in UNCONFIGURED, or by this station's
own COMMAND RESTART sent whole. With no command waiting a step keeps the station state.
(10_start_up_configuration_image_and_supply_monitor.md, 10.7; 10_start_up_configuration_image_and_supply_monitor.md, 10.8;
08_commands_from_the_line.md, 8.3; 08_commands_from_the_line.md, 8.7) -/
def Obligations.StationStateChangesByItsTable : Prop :=
  (∀ (c : Instr) (s t : State), c.wf = true → (s.restartPending ≠ none → s.station = .running ∨ s.station = .brownout) →
    exec c s = .next t → t.station ≠ s.station →
      (c = .powerOn ∧ t.station = .loading) ∨ (c = .supplyFailure ∧ t.station = .off) ∨
      (s.station = .loading ∧ t.station = .running ∧
        ∃ image i, c = .imageLoadEnd image ∧ checkImage (Memory.ofBytes image) = .passed i) ∨
      (s.station = .loading ∧ t.station = .unconfigured ∧
        ((∃ image fault n, c = .imageLoadEnd image ∧ checkImage (Memory.ofBytes image) = .failed fault n) ∨
          (2 ≤ s.loader.noAnswers ∧ c = .eepromNoAnswer ⟨s.loader.position, false⟩))) ∨
      (s.station = .running ∧ t.station = .brownout ∧ c = .supplySample true ∧ s.supply.lowRun = 1) ∨
      (s.station = .brownout ∧ t.station = .running ∧ c = .supplySample false ∧ s.supply.goodRun = 1) ∨
      (t.station = .loading ∧
        (((s.station = .running ∨ s.station = .brownout) ∧ s.restartPending ≠ none) ∨
          (∃ source target option payload, c = .restart source target option payload ∧
            ((s.station = .running ∧ target.toNat = s.number) ∨ (s.station = .unconfigured ∧ target = 0))) ∨
          (c = .attemptSucceeded ∧ ∃ f ∈ s.queue, ∃ frame b, f.phase = .sending frame ∧ frame.body = .command b ∧
            commandOf b.code = some .restart)))) ∧
  ∀ s t : State, s.pending = [] → step s = .next t → t.station = s.station

/-- Every step keeps each line's own count the sum of its cells, its state, map and lead as Table 4-3 pairs them, its alert record
as Table 5-2, its hash bit set. From every state in which each line's own count is the sum of the counts of its cells, every next
state of a step has it so; likewise that LEAD and FOLLOW have a map entry and SOLO and VACANT none, LEAD and SOLO have this
station as lead and FOLLOW and JOINING not, a map holds up to 12 distinct peers, and outside RUNNING and BROWNOUT all lines are
VACANT; that an alert record pairs state, urgency, timers and due flag; and that the code of a line that is not VACANT has its
hash bit set. (04_article_lines.md, 4.2; 04_article_lines.md, 4.3; 04_article_lines.md, 4.5; 05_restocking_alerts.md, 5.2;
07_frames_reception_and_the_send_queue.md, 7.3) -/
def Obligations.LinesStayLawful : Prop :=
  KeptByStep State.OwnCountsAgree ∧ KeptByStep State.LinesLawful ∧ KeptByStep State.AlertsLawful ∧ KeptByStep State.HashHolds

/-- Every step keeps the send queue at 4 frames or fewer, one SENDING, no two WAITING that would merge, and the departure log at
16 entries of 1 to 255 units. From every state whose queue holds at most 4 frames, at most one of them SENDING, attempt counts
below 16, ages rising below the next age, and whose WAITING frames hold no two COUNTs or ALERTs of one article and no two TALLYs,
every next state of a step has such a queue; from every state whose log holds at most 16 entries of 1 to 255 units each, every
next state of a step has such a log. (03_strays_and_the_departure_log.md, 3.2; 06_aisle_line_access.md, 6.4;
07_frames_reception_and_the_send_queue.md, 7.4) -/
def Obligations.QueueAndLogStayBounded : Prop :=
  KeptByStep (fun s => s.QueueBounded ∧ s.QueueMerged) ∧ KeptByStep State.QueueBounded ∧ KeptByStep State.LogBounded

/-- Every step keeps each cell's count, balance, window, stray list and fault run within their ranges, and an UNUSED cell empty.
From every state whose cells hold counts of 0 to 9,999, balances within 300,000 g, windows of at most 8 weights, at most 4 strays
and fault runs below 4, every next state of a step has such cells; from every state whose UNUSED cells are empty, every next state
of a step has them empty. (01_weighing_channels.md, 1.1; 01_weighing_channels.md, 1.3; 01_weighing_channels.md, 1.7;
01_weighing_channels.md, 1.8; 02_rest_evaluation_and_unit_counts.md, 2.1; 02_rest_evaluation_and_unit_counts.md, 2.3;
02_rest_evaluation_and_unit_counts.md, 2.4; 03_strays_and_the_departure_log.md, 3.7) -/
def Obligations.CellsStayBounded : Prop :=
  KeptByStep State.CellsBounded ∧ KeptByStep State.UnusedEmpty

/-- Every step keeps counters, last sender and run counts in their ranges, the memory canonical, and a restart pending in RUNNING
or BROWNOUT alone. From every state with the eight counters within 0 to 65,535 every next state of a step has them there; likewise
a last sender of 0 to 31 and run counts of 0 to 2; a configuration memory in its canonical form, addresses rising below 512 and no
erased byte listed; and that a restart is pending in RUNNING or BROWNOUT alone. (06_aisle_line_access.md, 6.3;
07_frames_reception_and_the_send_queue.md, 7.3; 08_commands_from_the_line.md, 8.7;
10_start_up_configuration_image_and_supply_monitor.md, 10.2; 10_start_up_configuration_image_and_supply_monitor.md, 10.7) -/
def Obligations.RestartAndRangesAreKept : Prop :=
  KeptByStep (fun s => s.counters.Bounded) ∧
  KeptByStep (fun s => s.access.lastSender ≤ 31 ∧ s.supply.lowRun ≤ 2 ∧ s.supply.goodRun ≤ 2) ∧
  KeptByStep (fun s => Memory.wf s.eeprom = true) ∧
  KeptByStep (fun s => s.restartPending ≠ none → s.station = .running ∨ s.station = .brownout)

/-- The station right after reset meets every law that a step keeps, and holds what the full start gives. At reset the lines,
queue, log, cells, counters and memory meet the laws of the invariant statements; the station is in LOADING with no frame, no
departure, no command answered, no restart pending and the clock at 0; that a stopped clock reads 0 is the model's choice (log
entry 11). (10_start_up_configuration_image_and_supply_monitor.md, 10.1; 10_start_up_configuration_image_and_supply_monitor.md,
10.8) -/
def Obligations.ResetMeetsTheInvariants : Prop :=
  let s := State.reset
  s.OwnCountsAgree ∧ s.LinesLawful ∧ s.AlertsLawful ∧ s.HashHolds ∧ s.QueueBounded ∧ s.QueueMerged ∧ s.LogBounded ∧
  s.CellsBounded ∧ s.UnusedEmpty ∧ s.counters.Bounded ∧ s.access.lastSender ≤ 31 ∧ s.supply.lowRun ≤ 2 ∧
  s.supply.goodRun ≤ 2 ∧ Memory.wf s.eeprom = true ∧ s.restartPending = none ∧ s.station = .loading ∧ s.queue = [] ∧
  s.log = [] ∧ s.clock = 0 ∧ s.lastCommand = none ∧ s.lastResult = none ∧ s.pending = []
end

