-- ==== Sys2Proof/Laws/Arithmetic.lean ====
section
/-! SUPPORT. The arithmetic of the conventions: rounding, clamping and magnitudes. -/

namespace Sys2Proof.Machine

/-- The magnitude is the absolute value. -/
theorem magnitude_abs (v : Int) : magnitude v = |v| := by
  unfold magnitude; split
  · rw [abs_of_neg (by assumption)]
  · rw [abs_of_nonneg (by omega)]

/-- Clamping is the larger of the lower bound and the smaller of the upper bound and the value. -/
theorem clampInt_eq (lo hi v : Int) (h : lo ≤ hi) : clampInt lo hi v = max lo (min hi v) := by
  unfold clampInt; split
  · omega
  · split <;> omega

/-- Rounding gives the nearest whole number, a half away from zero, and is the only number that does. -/
theorem roundDiv_rounded (n d : Int) (hd : 0 < d) :
    Rounded n d (roundDiv n d) ∧ ∀ k : Int, Rounded n d k → k = roundDiv n d := by
  have key : Rounded n d (roundDiv n d) := by
    unfold Rounded roundDiv
    split
    · have h1 := Int.mul_ediv_add_emod (2*n+d) (2*d)
      have h2 := Int.emod_nonneg (2*n+d) (b:=2*d) (by omega)
      have h3 := Int.emod_lt_of_pos (2*n+d) (b:=2*d) (by omega)
      have h4 : 0 ≤ (2*n+d)/(2*d) := Int.ediv_nonneg (by omega) (by omega)
      have h5 : 0 ≤ (2*n+d)/(2*d) * d := by positivity
      have : 2*d * ((2*n+d)/(2*d)) = 2*((2*n+d)/(2*d) * d) := by ring
      generalize (2*n+d)/(2*d) * d = x at *
      constructor
      · rcases abs_cases (n-x) with ⟨h,_⟩|⟨h,_⟩ <;> omega
      · intro h; rcases abs_cases (n-x) with ⟨h',_⟩|⟨h',_⟩ <;> rw [abs_of_nonneg (by assumption), abs_of_nonneg h5] <;> omega
    · have h1 := Int.mul_ediv_add_emod (2*(-n)+d) (2*d)
      have h2 := Int.emod_nonneg (2*(-n)+d) (b:=2*d) (by omega)
      have h3 := Int.emod_lt_of_pos (2*(-n)+d) (b:=2*d) (by omega)
      have h4 : 0 ≤ (2*(-n)+d)/(2*d) := Int.ediv_nonneg (by omega) (by omega)
      have h5 : 0 ≤ (2*(-n)+d)/(2*d) * d := by positivity
      have : 2*d * ((2*(-n)+d)/(2*d)) = 2*((2*(-n)+d)/(2*d) * d) := by ring
      have h6 : -((2*(-n)+d)/(2*d)) * d = -((2*(-n)+d)/(2*d) * d) := by ring
      rw [h6]
      generalize (2*(-n)+d)/(2*d) * d = x at *
      constructor
      · rcases abs_cases (n- -x) with ⟨h,_⟩|⟨h,_⟩ <;> omega
      · intro h; rcases abs_cases (n- -x) with ⟨h',_⟩|⟨h',_⟩ <;> rw [abs_of_neg (by omega), abs_of_nonpos (by omega)] <;> omega
  refine ⟨key, fun k hk => ?_⟩
  obtain ⟨a,b⟩ := key
  obtain ⟨c,e⟩ := hk
  generalize roundDiv n d = r at *
  by_contra hne
  have : |n - k*d - (n - r*d)| = |r - k| * d := by
    rw [show n - k*d - (n - r*d) = (r-k)*d by ring, abs_mul, abs_of_pos hd]
  have h1 : 1 ≤ |r-k| := Int.one_le_abs (by omega)
  have h2 : |n - k*d - (n - r*d)| ≤ |n-k*d| + |n-r*d| := abs_sub _ _
  have h3 : d ≤ |r - k| * d := by nlinarith
  have one : |r - k| = 1 := by nlinarith
  have hk : k * d ≤ -d ∨ 0 ≤ k * d := by
    rcases lt_or_ge k 0 with h | h
    · exact .inl (by nlinarith)
    · exact .inr (by positivity)
  have hr : r * d ≤ -d ∨ 0 ≤ r * d := by
    rcases lt_or_ge r 0 with h | h
    · exact .inl (by nlinarith)
    · exact .inr (by positivity)
  have sep : r * d = k * d + d ∨ r * d = k * d - d := by
    rcases (abs_eq (by norm_num)).mp one with h | h
    · exact .inl (by rw [show r = k + 1 by omega]; ring)
    · exact .inr (by rw [show r = k - 1 by omega]; ring)
  have ha : 2 * |n - r * d| = d := by rw [one] at h3 this; omega
  have hc : 2 * |n - k * d| = d := by rw [one] at h3 this; omega
  have b' := b ha
  have e' := e hc
  generalize r * d = x at *
  generalize k * d = y at *
  rcases abs_cases (n - x) with ⟨p, _⟩ | ⟨p, _⟩ <;> rcases abs_cases (n - y) with ⟨q, _⟩ | ⟨q, _⟩ <;>
    rcases abs_cases n with ⟨u, _⟩ | ⟨u, _⟩ <;> rcases abs_cases x with ⟨v, _⟩ | ⟨v, _⟩ <;>
    rcases abs_cases y with ⟨w, _⟩ | ⟨w, _⟩ <;> omega

end Sys2Proof.Machine
end

