-- ==== Sys2Proof/Laws/State.lean ====
section
/-! SUPPORT. One lemma for each field that a state update leaves alone, and what each update sets, so that no later proof unfolds a
record update. -/

namespace Sys2Proof.Machine

variable (s : State)

/-! ### setCell -/

@[simp] theorem setCell_station (i : Fin 12) (c : CellRecord) : (s.setCell i c).station = s.station := rfl
@[simp] theorem setCell_number (i : Fin 12) (c : CellRecord) : (s.setCell i c).number = s.number := rfl
@[simp] theorem setCell_neighbours (i : Fin 12) (c : CellRecord) : (s.setCell i c).neighbours = s.neighbours := rfl
@[simp] theorem setCell_eventThreshold (i : Fin 12) (c : CellRecord) : (s.setCell i c).eventThreshold = s.eventThreshold := rfl
@[simp] theorem setCell_settleBand (i : Fin 12) (c : CellRecord) : (s.setCell i c).settleBand = s.settleBand := rfl
@[simp] theorem setCell_motionLimit (i : Fin 12) (c : CellRecord) : (s.setCell i c).motionLimit = s.motionLimit := rfl
@[simp] theorem setCell_strayWindow (i : Fin 12) (c : CellRecord) : (s.setCell i c).strayWindow = s.strayWindow := rfl
@[simp] theorem setCell_imageClamped (i : Fin 12) (c : CellRecord) : (s.setCell i c).imageClamped = s.imageClamped := rfl
@[simp] theorem setCell_hashTable (i : Fin 12) (c : CellRecord) : (s.setCell i c).hashTable = s.hashTable := rfl
@[simp] theorem setCell_loadFault (i : Fin 12) (c : CellRecord) : (s.setCell i c).loadFault = s.loadFault := rfl
@[simp] theorem setCell_loader (i : Fin 12) (c : CellRecord) : (s.setCell i c).loader = s.loader := rfl
@[simp] theorem setCell_eeprom (i : Fin 12) (c : CellRecord) : (s.setCell i c).eeprom = s.eeprom := rfl
@[simp] theorem setCell_clock (i : Fin 12) (c : CellRecord) : (s.setCell i c).clock = s.clock := rfl
@[simp] theorem setCell_tallyAt (i : Fin 12) (c : CellRecord) : (s.setCell i c).tallyAt = s.tallyAt := rfl
@[simp] theorem setCell_faultAt (i : Fin 12) (c : CellRecord) : (s.setCell i c).faultAt = s.faultAt := rfl
@[simp] theorem setCell_rotation (i : Fin 12) (c : CellRecord) : (s.setCell i c).rotation = s.rotation := rfl
@[simp] theorem setCell_departureSerial (i : Fin 12) (c : CellRecord) : (s.setCell i c).departureSerial = s.departureSerial := rfl
@[simp] theorem setCell_log (i : Fin 12) (c : CellRecord) : (s.setCell i c).log = s.log := rfl
@[simp] theorem setCell_lines (i : Fin 12) (c : CellRecord) : (s.setCell i c).lines = s.lines := rfl
@[simp] theorem setCell_census (i : Fin 12) (c : CellRecord) : (s.setCell i c).census = s.census := rfl
@[simp] theorem setCell_access (i : Fin 12) (c : CellRecord) : (s.setCell i c).access = s.access := rfl
@[simp] theorem setCell_counters (i : Fin 12) (c : CellRecord) : (s.setCell i c).counters = s.counters := rfl
@[simp] theorem setCell_queue (i : Fin 12) (c : CellRecord) : (s.setCell i c).queue = s.queue := rfl
@[simp] theorem setCell_nextAge (i : Fin 12) (c : CellRecord) : (s.setCell i c).nextAge = s.nextAge := rfl
@[simp] theorem setCell_lastCommand (i : Fin 12) (c : CellRecord) : (s.setCell i c).lastCommand = s.lastCommand := rfl
@[simp] theorem setCell_lastResult (i : Fin 12) (c : CellRecord) : (s.setCell i c).lastResult = s.lastResult := rfl
@[simp] theorem setCell_restartPending (i : Fin 12) (c : CellRecord) : (s.setCell i c).restartPending = s.restartPending := rfl
@[simp] theorem setCell_lineLow (i : Fin 12) (c : CellRecord) : (s.setCell i c).lineLow = s.lineLow := rfl
@[simp] theorem setCell_key (i : Fin 12) (c : CellRecord) : (s.setCell i c).key = s.key := rfl
@[simp] theorem setCell_supply (i : Fin 12) (c : CellRecord) : (s.setCell i c).supply = s.supply := rfl
@[simp] theorem setCell_pending (i : Fin 12) (c : CellRecord) : (s.setCell i c).pending = s.pending := rfl

/-! ### setLine -/

@[simp] theorem setLine_station (l : Fin 12) (a : ArticleLine) : (s.setLine l a).station = s.station := rfl
@[simp] theorem setLine_number (l : Fin 12) (a : ArticleLine) : (s.setLine l a).number = s.number := rfl
@[simp] theorem setLine_neighbours (l : Fin 12) (a : ArticleLine) : (s.setLine l a).neighbours = s.neighbours := rfl
@[simp] theorem setLine_eventThreshold (l : Fin 12) (a : ArticleLine) : (s.setLine l a).eventThreshold = s.eventThreshold := rfl
@[simp] theorem setLine_settleBand (l : Fin 12) (a : ArticleLine) : (s.setLine l a).settleBand = s.settleBand := rfl
@[simp] theorem setLine_motionLimit (l : Fin 12) (a : ArticleLine) : (s.setLine l a).motionLimit = s.motionLimit := rfl
@[simp] theorem setLine_strayWindow (l : Fin 12) (a : ArticleLine) : (s.setLine l a).strayWindow = s.strayWindow := rfl
@[simp] theorem setLine_imageClamped (l : Fin 12) (a : ArticleLine) : (s.setLine l a).imageClamped = s.imageClamped := rfl
@[simp] theorem setLine_hashTable (l : Fin 12) (a : ArticleLine) : (s.setLine l a).hashTable = s.hashTable := rfl
@[simp] theorem setLine_loadFault (l : Fin 12) (a : ArticleLine) : (s.setLine l a).loadFault = s.loadFault := rfl
@[simp] theorem setLine_loader (l : Fin 12) (a : ArticleLine) : (s.setLine l a).loader = s.loader := rfl
@[simp] theorem setLine_eeprom (l : Fin 12) (a : ArticleLine) : (s.setLine l a).eeprom = s.eeprom := rfl
@[simp] theorem setLine_clock (l : Fin 12) (a : ArticleLine) : (s.setLine l a).clock = s.clock := rfl
@[simp] theorem setLine_tallyAt (l : Fin 12) (a : ArticleLine) : (s.setLine l a).tallyAt = s.tallyAt := rfl
@[simp] theorem setLine_faultAt (l : Fin 12) (a : ArticleLine) : (s.setLine l a).faultAt = s.faultAt := rfl
@[simp] theorem setLine_rotation (l : Fin 12) (a : ArticleLine) : (s.setLine l a).rotation = s.rotation := rfl
@[simp] theorem setLine_cells (l : Fin 12) (a : ArticleLine) : (s.setLine l a).cells = s.cells := rfl
@[simp] theorem setLine_departureSerial (l : Fin 12) (a : ArticleLine) : (s.setLine l a).departureSerial = s.departureSerial := rfl
@[simp] theorem setLine_log (l : Fin 12) (a : ArticleLine) : (s.setLine l a).log = s.log := rfl
@[simp] theorem setLine_census (l : Fin 12) (a : ArticleLine) : (s.setLine l a).census = s.census := rfl
@[simp] theorem setLine_access (l : Fin 12) (a : ArticleLine) : (s.setLine l a).access = s.access := rfl
@[simp] theorem setLine_counters (l : Fin 12) (a : ArticleLine) : (s.setLine l a).counters = s.counters := rfl
@[simp] theorem setLine_queue (l : Fin 12) (a : ArticleLine) : (s.setLine l a).queue = s.queue := rfl
@[simp] theorem setLine_nextAge (l : Fin 12) (a : ArticleLine) : (s.setLine l a).nextAge = s.nextAge := rfl
@[simp] theorem setLine_lastCommand (l : Fin 12) (a : ArticleLine) : (s.setLine l a).lastCommand = s.lastCommand := rfl
@[simp] theorem setLine_lastResult (l : Fin 12) (a : ArticleLine) : (s.setLine l a).lastResult = s.lastResult := rfl
@[simp] theorem setLine_restartPending (l : Fin 12) (a : ArticleLine) : (s.setLine l a).restartPending = s.restartPending := rfl
@[simp] theorem setLine_lineLow (l : Fin 12) (a : ArticleLine) : (s.setLine l a).lineLow = s.lineLow := rfl
@[simp] theorem setLine_key (l : Fin 12) (a : ArticleLine) : (s.setLine l a).key = s.key := rfl
@[simp] theorem setLine_supply (l : Fin 12) (a : ArticleLine) : (s.setLine l a).supply = s.supply := rfl
@[simp] theorem setLine_pending (l : Fin 12) (a : ArticleLine) : (s.setLine l a).pending = s.pending := rfl

/-! ### setCount -/

@[simp] theorem setCount_station (i : Fin 12) (n : Nat) : (s.setCount i n).station = s.station := rfl
@[simp] theorem setCount_number (i : Fin 12) (n : Nat) : (s.setCount i n).number = s.number := rfl
@[simp] theorem setCount_neighbours (i : Fin 12) (n : Nat) : (s.setCount i n).neighbours = s.neighbours := rfl
@[simp] theorem setCount_eventThreshold (i : Fin 12) (n : Nat) : (s.setCount i n).eventThreshold = s.eventThreshold := rfl
@[simp] theorem setCount_settleBand (i : Fin 12) (n : Nat) : (s.setCount i n).settleBand = s.settleBand := rfl
@[simp] theorem setCount_motionLimit (i : Fin 12) (n : Nat) : (s.setCount i n).motionLimit = s.motionLimit := rfl
@[simp] theorem setCount_strayWindow (i : Fin 12) (n : Nat) : (s.setCount i n).strayWindow = s.strayWindow := rfl
@[simp] theorem setCount_imageClamped (i : Fin 12) (n : Nat) : (s.setCount i n).imageClamped = s.imageClamped := rfl
@[simp] theorem setCount_hashTable (i : Fin 12) (n : Nat) : (s.setCount i n).hashTable = s.hashTable := rfl
@[simp] theorem setCount_loadFault (i : Fin 12) (n : Nat) : (s.setCount i n).loadFault = s.loadFault := rfl
@[simp] theorem setCount_loader (i : Fin 12) (n : Nat) : (s.setCount i n).loader = s.loader := rfl
@[simp] theorem setCount_eeprom (i : Fin 12) (n : Nat) : (s.setCount i n).eeprom = s.eeprom := rfl
@[simp] theorem setCount_clock (i : Fin 12) (n : Nat) : (s.setCount i n).clock = s.clock := rfl
@[simp] theorem setCount_tallyAt (i : Fin 12) (n : Nat) : (s.setCount i n).tallyAt = s.tallyAt := rfl
@[simp] theorem setCount_faultAt (i : Fin 12) (n : Nat) : (s.setCount i n).faultAt = s.faultAt := rfl
@[simp] theorem setCount_rotation (i : Fin 12) (n : Nat) : (s.setCount i n).rotation = s.rotation := rfl
@[simp] theorem setCount_departureSerial (i : Fin 12) (n : Nat) : (s.setCount i n).departureSerial = s.departureSerial := rfl
@[simp] theorem setCount_log (i : Fin 12) (n : Nat) : (s.setCount i n).log = s.log := rfl
@[simp] theorem setCount_census (i : Fin 12) (n : Nat) : (s.setCount i n).census = s.census := rfl
@[simp] theorem setCount_access (i : Fin 12) (n : Nat) : (s.setCount i n).access = s.access := rfl
@[simp] theorem setCount_counters (i : Fin 12) (n : Nat) : (s.setCount i n).counters = s.counters := rfl
@[simp] theorem setCount_queue (i : Fin 12) (n : Nat) : (s.setCount i n).queue = s.queue := rfl
@[simp] theorem setCount_nextAge (i : Fin 12) (n : Nat) : (s.setCount i n).nextAge = s.nextAge := rfl
@[simp] theorem setCount_lastCommand (i : Fin 12) (n : Nat) : (s.setCount i n).lastCommand = s.lastCommand := rfl
@[simp] theorem setCount_lastResult (i : Fin 12) (n : Nat) : (s.setCount i n).lastResult = s.lastResult := rfl
@[simp] theorem setCount_restartPending (i : Fin 12) (n : Nat) : (s.setCount i n).restartPending = s.restartPending := rfl
@[simp] theorem setCount_lineLow (i : Fin 12) (n : Nat) : (s.setCount i n).lineLow = s.lineLow := rfl
@[simp] theorem setCount_key (i : Fin 12) (n : Nat) : (s.setCount i n).key = s.key := rfl
@[simp] theorem setCount_supply (i : Fin 12) (n : Nat) : (s.setCount i n).supply = s.supply := rfl
@[simp] theorem setCount_pending (i : Fin 12) (n : Nat) : (s.setCount i n).pending = s.pending := rfl

/-! ### setAlert -/

@[simp] theorem setAlert_station (l : Fin 12) (r : AlertRecord) : (s.setAlert l r).station = s.station := rfl
@[simp] theorem setAlert_number (l : Fin 12) (r : AlertRecord) : (s.setAlert l r).number = s.number := rfl
@[simp] theorem setAlert_neighbours (l : Fin 12) (r : AlertRecord) : (s.setAlert l r).neighbours = s.neighbours := rfl
@[simp] theorem setAlert_eventThreshold (l : Fin 12) (r : AlertRecord) : (s.setAlert l r).eventThreshold = s.eventThreshold := rfl
@[simp] theorem setAlert_settleBand (l : Fin 12) (r : AlertRecord) : (s.setAlert l r).settleBand = s.settleBand := rfl
@[simp] theorem setAlert_motionLimit (l : Fin 12) (r : AlertRecord) : (s.setAlert l r).motionLimit = s.motionLimit := rfl
@[simp] theorem setAlert_strayWindow (l : Fin 12) (r : AlertRecord) : (s.setAlert l r).strayWindow = s.strayWindow := rfl
@[simp] theorem setAlert_imageClamped (l : Fin 12) (r : AlertRecord) : (s.setAlert l r).imageClamped = s.imageClamped := rfl
@[simp] theorem setAlert_hashTable (l : Fin 12) (r : AlertRecord) : (s.setAlert l r).hashTable = s.hashTable := rfl
@[simp] theorem setAlert_loadFault (l : Fin 12) (r : AlertRecord) : (s.setAlert l r).loadFault = s.loadFault := rfl
@[simp] theorem setAlert_loader (l : Fin 12) (r : AlertRecord) : (s.setAlert l r).loader = s.loader := rfl
@[simp] theorem setAlert_eeprom (l : Fin 12) (r : AlertRecord) : (s.setAlert l r).eeprom = s.eeprom := rfl
@[simp] theorem setAlert_clock (l : Fin 12) (r : AlertRecord) : (s.setAlert l r).clock = s.clock := rfl
@[simp] theorem setAlert_tallyAt (l : Fin 12) (r : AlertRecord) : (s.setAlert l r).tallyAt = s.tallyAt := rfl
@[simp] theorem setAlert_faultAt (l : Fin 12) (r : AlertRecord) : (s.setAlert l r).faultAt = s.faultAt := rfl
@[simp] theorem setAlert_rotation (l : Fin 12) (r : AlertRecord) : (s.setAlert l r).rotation = s.rotation := rfl
@[simp] theorem setAlert_cells (l : Fin 12) (r : AlertRecord) : (s.setAlert l r).cells = s.cells := rfl
@[simp] theorem setAlert_departureSerial (l : Fin 12) (r : AlertRecord) : (s.setAlert l r).departureSerial = s.departureSerial := rfl
@[simp] theorem setAlert_log (l : Fin 12) (r : AlertRecord) : (s.setAlert l r).log = s.log := rfl
@[simp] theorem setAlert_census (l : Fin 12) (r : AlertRecord) : (s.setAlert l r).census = s.census := rfl
@[simp] theorem setAlert_access (l : Fin 12) (r : AlertRecord) : (s.setAlert l r).access = s.access := rfl
@[simp] theorem setAlert_counters (l : Fin 12) (r : AlertRecord) : (s.setAlert l r).counters = s.counters := rfl
@[simp] theorem setAlert_queue (l : Fin 12) (r : AlertRecord) : (s.setAlert l r).queue = s.queue := rfl
@[simp] theorem setAlert_nextAge (l : Fin 12) (r : AlertRecord) : (s.setAlert l r).nextAge = s.nextAge := rfl
@[simp] theorem setAlert_lastCommand (l : Fin 12) (r : AlertRecord) : (s.setAlert l r).lastCommand = s.lastCommand := rfl
@[simp] theorem setAlert_lastResult (l : Fin 12) (r : AlertRecord) : (s.setAlert l r).lastResult = s.lastResult := rfl
@[simp] theorem setAlert_restartPending (l : Fin 12) (r : AlertRecord) : (s.setAlert l r).restartPending = s.restartPending := rfl
@[simp] theorem setAlert_lineLow (l : Fin 12) (r : AlertRecord) : (s.setAlert l r).lineLow = s.lineLow := rfl
@[simp] theorem setAlert_key (l : Fin 12) (r : AlertRecord) : (s.setAlert l r).key = s.key := rfl
@[simp] theorem setAlert_supply (l : Fin 12) (r : AlertRecord) : (s.setAlert l r).supply = s.supply := rfl
@[simp] theorem setAlert_pending (l : Fin 12) (r : AlertRecord) : (s.setAlert l r).pending = s.pending := rfl

/-! ### startClaim -/

@[simp] theorem startClaim_station (l : Fin 12) : (s.startClaim l).station = s.station := rfl
@[simp] theorem startClaim_number (l : Fin 12) : (s.startClaim l).number = s.number := rfl
@[simp] theorem startClaim_neighbours (l : Fin 12) : (s.startClaim l).neighbours = s.neighbours := rfl
@[simp] theorem startClaim_eventThreshold (l : Fin 12) : (s.startClaim l).eventThreshold = s.eventThreshold := rfl
@[simp] theorem startClaim_settleBand (l : Fin 12) : (s.startClaim l).settleBand = s.settleBand := rfl
@[simp] theorem startClaim_motionLimit (l : Fin 12) : (s.startClaim l).motionLimit = s.motionLimit := rfl
@[simp] theorem startClaim_strayWindow (l : Fin 12) : (s.startClaim l).strayWindow = s.strayWindow := rfl
@[simp] theorem startClaim_imageClamped (l : Fin 12) : (s.startClaim l).imageClamped = s.imageClamped := rfl
@[simp] theorem startClaim_hashTable (l : Fin 12) : (s.startClaim l).hashTable = s.hashTable := rfl
@[simp] theorem startClaim_loadFault (l : Fin 12) : (s.startClaim l).loadFault = s.loadFault := rfl
@[simp] theorem startClaim_loader (l : Fin 12) : (s.startClaim l).loader = s.loader := rfl
@[simp] theorem startClaim_eeprom (l : Fin 12) : (s.startClaim l).eeprom = s.eeprom := rfl
@[simp] theorem startClaim_clock (l : Fin 12) : (s.startClaim l).clock = s.clock := rfl
@[simp] theorem startClaim_tallyAt (l : Fin 12) : (s.startClaim l).tallyAt = s.tallyAt := rfl
@[simp] theorem startClaim_faultAt (l : Fin 12) : (s.startClaim l).faultAt = s.faultAt := rfl
@[simp] theorem startClaim_rotation (l : Fin 12) : (s.startClaim l).rotation = s.rotation := rfl
@[simp] theorem startClaim_cells (l : Fin 12) : (s.startClaim l).cells = s.cells := rfl
@[simp] theorem startClaim_departureSerial (l : Fin 12) : (s.startClaim l).departureSerial = s.departureSerial := rfl
@[simp] theorem startClaim_log (l : Fin 12) : (s.startClaim l).log = s.log := rfl
@[simp] theorem startClaim_census (l : Fin 12) : (s.startClaim l).census = s.census := rfl
@[simp] theorem startClaim_access (l : Fin 12) : (s.startClaim l).access = s.access := rfl
@[simp] theorem startClaim_counters (l : Fin 12) : (s.startClaim l).counters = s.counters := rfl
@[simp] theorem startClaim_queue (l : Fin 12) : (s.startClaim l).queue = s.queue := rfl
@[simp] theorem startClaim_nextAge (l : Fin 12) : (s.startClaim l).nextAge = s.nextAge := rfl
@[simp] theorem startClaim_lastCommand (l : Fin 12) : (s.startClaim l).lastCommand = s.lastCommand := rfl
@[simp] theorem startClaim_lastResult (l : Fin 12) : (s.startClaim l).lastResult = s.lastResult := rfl
@[simp] theorem startClaim_restartPending (l : Fin 12) : (s.startClaim l).restartPending = s.restartPending := rfl
@[simp] theorem startClaim_lineLow (l : Fin 12) : (s.startClaim l).lineLow = s.lineLow := rfl
@[simp] theorem startClaim_key (l : Fin 12) : (s.startClaim l).key = s.key := rfl
@[simp] theorem startClaim_supply (l : Fin 12) : (s.startClaim l).supply = s.supply := rfl
@[simp] theorem startClaim_pending (l : Fin 12) : (s.startClaim l).pending = s.pending := rfl

/-! ### rebase -/

@[simp] theorem rebase_station (i : Fin 12) (m : Int) : (s.rebase i m).station = s.station := rfl
@[simp] theorem rebase_number (i : Fin 12) (m : Int) : (s.rebase i m).number = s.number := rfl
@[simp] theorem rebase_neighbours (i : Fin 12) (m : Int) : (s.rebase i m).neighbours = s.neighbours := rfl
@[simp] theorem rebase_eventThreshold (i : Fin 12) (m : Int) : (s.rebase i m).eventThreshold = s.eventThreshold := rfl
@[simp] theorem rebase_settleBand (i : Fin 12) (m : Int) : (s.rebase i m).settleBand = s.settleBand := rfl
@[simp] theorem rebase_motionLimit (i : Fin 12) (m : Int) : (s.rebase i m).motionLimit = s.motionLimit := rfl
@[simp] theorem rebase_strayWindow (i : Fin 12) (m : Int) : (s.rebase i m).strayWindow = s.strayWindow := rfl
@[simp] theorem rebase_imageClamped (i : Fin 12) (m : Int) : (s.rebase i m).imageClamped = s.imageClamped := rfl
@[simp] theorem rebase_hashTable (i : Fin 12) (m : Int) : (s.rebase i m).hashTable = s.hashTable := rfl
@[simp] theorem rebase_loadFault (i : Fin 12) (m : Int) : (s.rebase i m).loadFault = s.loadFault := rfl
@[simp] theorem rebase_loader (i : Fin 12) (m : Int) : (s.rebase i m).loader = s.loader := rfl
@[simp] theorem rebase_eeprom (i : Fin 12) (m : Int) : (s.rebase i m).eeprom = s.eeprom := rfl
@[simp] theorem rebase_clock (i : Fin 12) (m : Int) : (s.rebase i m).clock = s.clock := rfl
@[simp] theorem rebase_tallyAt (i : Fin 12) (m : Int) : (s.rebase i m).tallyAt = s.tallyAt := rfl
@[simp] theorem rebase_faultAt (i : Fin 12) (m : Int) : (s.rebase i m).faultAt = s.faultAt := rfl
@[simp] theorem rebase_rotation (i : Fin 12) (m : Int) : (s.rebase i m).rotation = s.rotation := rfl
@[simp] theorem rebase_departureSerial (i : Fin 12) (m : Int) : (s.rebase i m).departureSerial = s.departureSerial := rfl
@[simp] theorem rebase_log (i : Fin 12) (m : Int) : (s.rebase i m).log = s.log := rfl
@[simp] theorem rebase_lines (i : Fin 12) (m : Int) : (s.rebase i m).lines = s.lines := rfl
@[simp] theorem rebase_census (i : Fin 12) (m : Int) : (s.rebase i m).census = s.census := rfl
@[simp] theorem rebase_access (i : Fin 12) (m : Int) : (s.rebase i m).access = s.access := rfl
@[simp] theorem rebase_counters (i : Fin 12) (m : Int) : (s.rebase i m).counters = s.counters := rfl
@[simp] theorem rebase_queue (i : Fin 12) (m : Int) : (s.rebase i m).queue = s.queue := rfl
@[simp] theorem rebase_nextAge (i : Fin 12) (m : Int) : (s.rebase i m).nextAge = s.nextAge := rfl
@[simp] theorem rebase_lastCommand (i : Fin 12) (m : Int) : (s.rebase i m).lastCommand = s.lastCommand := rfl
@[simp] theorem rebase_lastResult (i : Fin 12) (m : Int) : (s.rebase i m).lastResult = s.lastResult := rfl
@[simp] theorem rebase_restartPending (i : Fin 12) (m : Int) : (s.rebase i m).restartPending = s.restartPending := rfl
@[simp] theorem rebase_lineLow (i : Fin 12) (m : Int) : (s.rebase i m).lineLow = s.lineLow := rfl
@[simp] theorem rebase_key (i : Fin 12) (m : Int) : (s.rebase i m).key = s.key := rfl
@[simp] theorem rebase_supply (i : Fin 12) (m : Int) : (s.rebase i m).supply = s.supply := rfl
@[simp] theorem rebase_pending (i : Fin 12) (m : Int) : (s.rebase i m).pending = s.pending := rfl

/-! ### clearFirstRest -/

@[simp] theorem clearFirstRest_station (i : Fin 12) : (s.clearFirstRest i).station = s.station := rfl
@[simp] theorem clearFirstRest_number (i : Fin 12) : (s.clearFirstRest i).number = s.number := rfl
@[simp] theorem clearFirstRest_neighbours (i : Fin 12) : (s.clearFirstRest i).neighbours = s.neighbours := rfl
@[simp] theorem clearFirstRest_eventThreshold (i : Fin 12) : (s.clearFirstRest i).eventThreshold = s.eventThreshold := rfl
@[simp] theorem clearFirstRest_settleBand (i : Fin 12) : (s.clearFirstRest i).settleBand = s.settleBand := rfl
@[simp] theorem clearFirstRest_motionLimit (i : Fin 12) : (s.clearFirstRest i).motionLimit = s.motionLimit := rfl
@[simp] theorem clearFirstRest_strayWindow (i : Fin 12) : (s.clearFirstRest i).strayWindow = s.strayWindow := rfl
@[simp] theorem clearFirstRest_imageClamped (i : Fin 12) : (s.clearFirstRest i).imageClamped = s.imageClamped := rfl
@[simp] theorem clearFirstRest_hashTable (i : Fin 12) : (s.clearFirstRest i).hashTable = s.hashTable := rfl
@[simp] theorem clearFirstRest_loadFault (i : Fin 12) : (s.clearFirstRest i).loadFault = s.loadFault := rfl
@[simp] theorem clearFirstRest_loader (i : Fin 12) : (s.clearFirstRest i).loader = s.loader := rfl
@[simp] theorem clearFirstRest_eeprom (i : Fin 12) : (s.clearFirstRest i).eeprom = s.eeprom := rfl
@[simp] theorem clearFirstRest_clock (i : Fin 12) : (s.clearFirstRest i).clock = s.clock := rfl
@[simp] theorem clearFirstRest_tallyAt (i : Fin 12) : (s.clearFirstRest i).tallyAt = s.tallyAt := rfl
@[simp] theorem clearFirstRest_faultAt (i : Fin 12) : (s.clearFirstRest i).faultAt = s.faultAt := rfl
@[simp] theorem clearFirstRest_rotation (i : Fin 12) : (s.clearFirstRest i).rotation = s.rotation := rfl
@[simp] theorem clearFirstRest_departureSerial (i : Fin 12) : (s.clearFirstRest i).departureSerial = s.departureSerial := rfl
@[simp] theorem clearFirstRest_log (i : Fin 12) : (s.clearFirstRest i).log = s.log := rfl
@[simp] theorem clearFirstRest_lines (i : Fin 12) : (s.clearFirstRest i).lines = s.lines := rfl
@[simp] theorem clearFirstRest_census (i : Fin 12) : (s.clearFirstRest i).census = s.census := rfl
@[simp] theorem clearFirstRest_access (i : Fin 12) : (s.clearFirstRest i).access = s.access := rfl
@[simp] theorem clearFirstRest_counters (i : Fin 12) : (s.clearFirstRest i).counters = s.counters := rfl
@[simp] theorem clearFirstRest_queue (i : Fin 12) : (s.clearFirstRest i).queue = s.queue := rfl
@[simp] theorem clearFirstRest_nextAge (i : Fin 12) : (s.clearFirstRest i).nextAge = s.nextAge := rfl
@[simp] theorem clearFirstRest_lastCommand (i : Fin 12) : (s.clearFirstRest i).lastCommand = s.lastCommand := rfl
@[simp] theorem clearFirstRest_lastResult (i : Fin 12) : (s.clearFirstRest i).lastResult = s.lastResult := rfl
@[simp] theorem clearFirstRest_restartPending (i : Fin 12) : (s.clearFirstRest i).restartPending = s.restartPending := rfl
@[simp] theorem clearFirstRest_lineLow (i : Fin 12) : (s.clearFirstRest i).lineLow = s.lineLow := rfl
@[simp] theorem clearFirstRest_key (i : Fin 12) : (s.clearFirstRest i).key = s.key := rfl
@[simp] theorem clearFirstRest_supply (i : Fin 12) : (s.clearFirstRest i).supply = s.supply := rfl
@[simp] theorem clearFirstRest_pending (i : Fin 12) : (s.clearFirstRest i).pending = s.pending := rfl

/-! ### advanceTo -/

@[simp] theorem advanceTo_station (t : Nat) : (s.advanceTo t).station = s.station := rfl
@[simp] theorem advanceTo_number (t : Nat) : (s.advanceTo t).number = s.number := rfl
@[simp] theorem advanceTo_neighbours (t : Nat) : (s.advanceTo t).neighbours = s.neighbours := rfl
@[simp] theorem advanceTo_eventThreshold (t : Nat) : (s.advanceTo t).eventThreshold = s.eventThreshold := rfl
@[simp] theorem advanceTo_settleBand (t : Nat) : (s.advanceTo t).settleBand = s.settleBand := rfl
@[simp] theorem advanceTo_motionLimit (t : Nat) : (s.advanceTo t).motionLimit = s.motionLimit := rfl
@[simp] theorem advanceTo_strayWindow (t : Nat) : (s.advanceTo t).strayWindow = s.strayWindow := rfl
@[simp] theorem advanceTo_imageClamped (t : Nat) : (s.advanceTo t).imageClamped = s.imageClamped := rfl
@[simp] theorem advanceTo_hashTable (t : Nat) : (s.advanceTo t).hashTable = s.hashTable := rfl
@[simp] theorem advanceTo_loadFault (t : Nat) : (s.advanceTo t).loadFault = s.loadFault := rfl
@[simp] theorem advanceTo_loader (t : Nat) : (s.advanceTo t).loader = s.loader := rfl
@[simp] theorem advanceTo_eeprom (t : Nat) : (s.advanceTo t).eeprom = s.eeprom := rfl
@[simp] theorem advanceTo_tallyAt (t : Nat) : (s.advanceTo t).tallyAt = s.tallyAt := rfl
@[simp] theorem advanceTo_faultAt (t : Nat) : (s.advanceTo t).faultAt = s.faultAt := rfl
@[simp] theorem advanceTo_rotation (t : Nat) : (s.advanceTo t).rotation = s.rotation := rfl
@[simp] theorem advanceTo_cells (t : Nat) : (s.advanceTo t).cells = s.cells := rfl
@[simp] theorem advanceTo_departureSerial (t : Nat) : (s.advanceTo t).departureSerial = s.departureSerial := rfl
@[simp] theorem advanceTo_log (t : Nat) : (s.advanceTo t).log = s.log := rfl
@[simp] theorem advanceTo_lines (t : Nat) : (s.advanceTo t).lines = s.lines := rfl
@[simp] theorem advanceTo_census (t : Nat) : (s.advanceTo t).census = s.census := rfl
@[simp] theorem advanceTo_access (t : Nat) : (s.advanceTo t).access = s.access := rfl
@[simp] theorem advanceTo_counters (t : Nat) : (s.advanceTo t).counters = s.counters := rfl
@[simp] theorem advanceTo_queue (t : Nat) : (s.advanceTo t).queue = s.queue := rfl
@[simp] theorem advanceTo_nextAge (t : Nat) : (s.advanceTo t).nextAge = s.nextAge := rfl
@[simp] theorem advanceTo_lastCommand (t : Nat) : (s.advanceTo t).lastCommand = s.lastCommand := rfl
@[simp] theorem advanceTo_lastResult (t : Nat) : (s.advanceTo t).lastResult = s.lastResult := rfl
@[simp] theorem advanceTo_restartPending (t : Nat) : (s.advanceTo t).restartPending = s.restartPending := rfl
@[simp] theorem advanceTo_lineLow (t : Nat) : (s.advanceTo t).lineLow = s.lineLow := rfl
@[simp] theorem advanceTo_key (t : Nat) : (s.advanceTo t).key = s.key := rfl
@[simp] theorem advanceTo_supply (t : Nat) : (s.advanceTo t).supply = s.supply := rfl
@[simp] theorem advanceTo_pending (t : Nat) : (s.advanceTo t).pending = s.pending := rfl

/-! ### logJoin -/

@[simp] theorem logJoin_station (e : Departure) : (s.logJoin e).station = s.station := by simp only [State.logJoin]
@[simp] theorem logJoin_number (e : Departure) : (s.logJoin e).number = s.number := by simp only [State.logJoin]
@[simp] theorem logJoin_neighbours (e : Departure) : (s.logJoin e).neighbours = s.neighbours := by simp only [State.logJoin]
@[simp] theorem logJoin_eventThreshold (e : Departure) : (s.logJoin e).eventThreshold = s.eventThreshold := by simp only [State.logJoin]
@[simp] theorem logJoin_settleBand (e : Departure) : (s.logJoin e).settleBand = s.settleBand := by simp only [State.logJoin]
@[simp] theorem logJoin_motionLimit (e : Departure) : (s.logJoin e).motionLimit = s.motionLimit := by simp only [State.logJoin]
@[simp] theorem logJoin_strayWindow (e : Departure) : (s.logJoin e).strayWindow = s.strayWindow := by simp only [State.logJoin]
@[simp] theorem logJoin_imageClamped (e : Departure) : (s.logJoin e).imageClamped = s.imageClamped := by simp only [State.logJoin]
@[simp] theorem logJoin_hashTable (e : Departure) : (s.logJoin e).hashTable = s.hashTable := by simp only [State.logJoin]
@[simp] theorem logJoin_loadFault (e : Departure) : (s.logJoin e).loadFault = s.loadFault := by simp only [State.logJoin]
@[simp] theorem logJoin_loader (e : Departure) : (s.logJoin e).loader = s.loader := by simp only [State.logJoin]
@[simp] theorem logJoin_eeprom (e : Departure) : (s.logJoin e).eeprom = s.eeprom := by simp only [State.logJoin]
@[simp] theorem logJoin_clock (e : Departure) : (s.logJoin e).clock = s.clock := by simp only [State.logJoin]
@[simp] theorem logJoin_tallyAt (e : Departure) : (s.logJoin e).tallyAt = s.tallyAt := by simp only [State.logJoin]
@[simp] theorem logJoin_faultAt (e : Departure) : (s.logJoin e).faultAt = s.faultAt := by simp only [State.logJoin]
@[simp] theorem logJoin_rotation (e : Departure) : (s.logJoin e).rotation = s.rotation := by simp only [State.logJoin]
@[simp] theorem logJoin_cells (e : Departure) : (s.logJoin e).cells = s.cells := by simp only [State.logJoin]
@[simp] theorem logJoin_departureSerial (e : Departure) : (s.logJoin e).departureSerial = s.departureSerial := by simp only [State.logJoin]
@[simp] theorem logJoin_lines (e : Departure) : (s.logJoin e).lines = s.lines := by simp only [State.logJoin]
@[simp] theorem logJoin_census (e : Departure) : (s.logJoin e).census = s.census := by simp only [State.logJoin]
@[simp] theorem logJoin_access (e : Departure) : (s.logJoin e).access = s.access := by simp only [State.logJoin]
@[simp] theorem logJoin_counters (e : Departure) : (s.logJoin e).counters = s.counters := by simp only [State.logJoin]
@[simp] theorem logJoin_queue (e : Departure) : (s.logJoin e).queue = s.queue := by simp only [State.logJoin]
@[simp] theorem logJoin_nextAge (e : Departure) : (s.logJoin e).nextAge = s.nextAge := by simp only [State.logJoin]
@[simp] theorem logJoin_lastCommand (e : Departure) : (s.logJoin e).lastCommand = s.lastCommand := by simp only [State.logJoin]
@[simp] theorem logJoin_lastResult (e : Departure) : (s.logJoin e).lastResult = s.lastResult := by simp only [State.logJoin]
@[simp] theorem logJoin_restartPending (e : Departure) : (s.logJoin e).restartPending = s.restartPending := by simp only [State.logJoin]
@[simp] theorem logJoin_lineLow (e : Departure) : (s.logJoin e).lineLow = s.lineLow := by simp only [State.logJoin]
@[simp] theorem logJoin_key (e : Departure) : (s.logJoin e).key = s.key := by simp only [State.logJoin]
@[simp] theorem logJoin_supply (e : Departure) : (s.logJoin e).supply = s.supply := by simp only [State.logJoin]
@[simp] theorem logJoin_pending (e : Departure) : (s.logJoin e).pending = s.pending := by simp only [State.logJoin]

/-! ### consumeUnit -/

@[simp] theorem consumeUnit_station (p : Departure → Bool) : (s.consumeUnit p).station = s.station := rfl
@[simp] theorem consumeUnit_number (p : Departure → Bool) : (s.consumeUnit p).number = s.number := rfl
@[simp] theorem consumeUnit_neighbours (p : Departure → Bool) : (s.consumeUnit p).neighbours = s.neighbours := rfl
@[simp] theorem consumeUnit_eventThreshold (p : Departure → Bool) : (s.consumeUnit p).eventThreshold = s.eventThreshold := rfl
@[simp] theorem consumeUnit_settleBand (p : Departure → Bool) : (s.consumeUnit p).settleBand = s.settleBand := rfl
@[simp] theorem consumeUnit_motionLimit (p : Departure → Bool) : (s.consumeUnit p).motionLimit = s.motionLimit := rfl
@[simp] theorem consumeUnit_strayWindow (p : Departure → Bool) : (s.consumeUnit p).strayWindow = s.strayWindow := rfl
@[simp] theorem consumeUnit_imageClamped (p : Departure → Bool) : (s.consumeUnit p).imageClamped = s.imageClamped := rfl
@[simp] theorem consumeUnit_hashTable (p : Departure → Bool) : (s.consumeUnit p).hashTable = s.hashTable := rfl
@[simp] theorem consumeUnit_loadFault (p : Departure → Bool) : (s.consumeUnit p).loadFault = s.loadFault := rfl
@[simp] theorem consumeUnit_loader (p : Departure → Bool) : (s.consumeUnit p).loader = s.loader := rfl
@[simp] theorem consumeUnit_eeprom (p : Departure → Bool) : (s.consumeUnit p).eeprom = s.eeprom := rfl
@[simp] theorem consumeUnit_clock (p : Departure → Bool) : (s.consumeUnit p).clock = s.clock := rfl
@[simp] theorem consumeUnit_tallyAt (p : Departure → Bool) : (s.consumeUnit p).tallyAt = s.tallyAt := rfl
@[simp] theorem consumeUnit_faultAt (p : Departure → Bool) : (s.consumeUnit p).faultAt = s.faultAt := rfl
@[simp] theorem consumeUnit_rotation (p : Departure → Bool) : (s.consumeUnit p).rotation = s.rotation := rfl
@[simp] theorem consumeUnit_cells (p : Departure → Bool) : (s.consumeUnit p).cells = s.cells := rfl
@[simp] theorem consumeUnit_departureSerial (p : Departure → Bool) : (s.consumeUnit p).departureSerial = s.departureSerial := rfl
@[simp] theorem consumeUnit_lines (p : Departure → Bool) : (s.consumeUnit p).lines = s.lines := rfl
@[simp] theorem consumeUnit_census (p : Departure → Bool) : (s.consumeUnit p).census = s.census := rfl
@[simp] theorem consumeUnit_access (p : Departure → Bool) : (s.consumeUnit p).access = s.access := rfl
@[simp] theorem consumeUnit_counters (p : Departure → Bool) : (s.consumeUnit p).counters = s.counters := rfl
@[simp] theorem consumeUnit_queue (p : Departure → Bool) : (s.consumeUnit p).queue = s.queue := rfl
@[simp] theorem consumeUnit_nextAge (p : Departure → Bool) : (s.consumeUnit p).nextAge = s.nextAge := rfl
@[simp] theorem consumeUnit_lastCommand (p : Departure → Bool) : (s.consumeUnit p).lastCommand = s.lastCommand := rfl
@[simp] theorem consumeUnit_lastResult (p : Departure → Bool) : (s.consumeUnit p).lastResult = s.lastResult := rfl
@[simp] theorem consumeUnit_restartPending (p : Departure → Bool) : (s.consumeUnit p).restartPending = s.restartPending := rfl
@[simp] theorem consumeUnit_lineLow (p : Departure → Bool) : (s.consumeUnit p).lineLow = s.lineLow := rfl
@[simp] theorem consumeUnit_key (p : Departure → Bool) : (s.consumeUnit p).key = s.key := rfl
@[simp] theorem consumeUnit_supply (p : Departure → Bool) : (s.consumeUnit p).supply = s.supply := rfl
@[simp] theorem consumeUnit_pending (p : Departure → Bool) : (s.consumeUnit p).pending = s.pending := rfl

/-! ### enqueue -/

@[simp] theorem enqueue_station (c : Content) : (s.enqueue c).station = s.station := rfl
@[simp] theorem enqueue_number (c : Content) : (s.enqueue c).number = s.number := rfl
@[simp] theorem enqueue_neighbours (c : Content) : (s.enqueue c).neighbours = s.neighbours := rfl
@[simp] theorem enqueue_eventThreshold (c : Content) : (s.enqueue c).eventThreshold = s.eventThreshold := rfl
@[simp] theorem enqueue_settleBand (c : Content) : (s.enqueue c).settleBand = s.settleBand := rfl
@[simp] theorem enqueue_motionLimit (c : Content) : (s.enqueue c).motionLimit = s.motionLimit := rfl
@[simp] theorem enqueue_strayWindow (c : Content) : (s.enqueue c).strayWindow = s.strayWindow := rfl
@[simp] theorem enqueue_imageClamped (c : Content) : (s.enqueue c).imageClamped = s.imageClamped := rfl
@[simp] theorem enqueue_hashTable (c : Content) : (s.enqueue c).hashTable = s.hashTable := rfl
@[simp] theorem enqueue_loadFault (c : Content) : (s.enqueue c).loadFault = s.loadFault := rfl
@[simp] theorem enqueue_loader (c : Content) : (s.enqueue c).loader = s.loader := rfl
@[simp] theorem enqueue_eeprom (c : Content) : (s.enqueue c).eeprom = s.eeprom := rfl
@[simp] theorem enqueue_clock (c : Content) : (s.enqueue c).clock = s.clock := rfl
@[simp] theorem enqueue_tallyAt (c : Content) : (s.enqueue c).tallyAt = s.tallyAt := rfl
@[simp] theorem enqueue_faultAt (c : Content) : (s.enqueue c).faultAt = s.faultAt := rfl
@[simp] theorem enqueue_rotation (c : Content) : (s.enqueue c).rotation = s.rotation := rfl
@[simp] theorem enqueue_cells (c : Content) : (s.enqueue c).cells = s.cells := rfl
@[simp] theorem enqueue_departureSerial (c : Content) : (s.enqueue c).departureSerial = s.departureSerial := rfl
@[simp] theorem enqueue_log (c : Content) : (s.enqueue c).log = s.log := rfl
@[simp] theorem enqueue_lines (c : Content) : (s.enqueue c).lines = s.lines := rfl
@[simp] theorem enqueue_census (c : Content) : (s.enqueue c).census = s.census := rfl
@[simp] theorem enqueue_access (c : Content) : (s.enqueue c).access = s.access := rfl
@[simp] theorem enqueue_counters (c : Content) : (s.enqueue c).counters = s.counters := rfl
@[simp] theorem enqueue_lastCommand (c : Content) : (s.enqueue c).lastCommand = s.lastCommand := rfl
@[simp] theorem enqueue_lastResult (c : Content) : (s.enqueue c).lastResult = s.lastResult := rfl
@[simp] theorem enqueue_restartPending (c : Content) : (s.enqueue c).restartPending = s.restartPending := rfl
@[simp] theorem enqueue_lineLow (c : Content) : (s.enqueue c).lineLow = s.lineLow := rfl
@[simp] theorem enqueue_key (c : Content) : (s.enqueue c).key = s.key := rfl
@[simp] theorem enqueue_supply (c : Content) : (s.enqueue c).supply = s.supply := rfl
@[simp] theorem enqueue_pending (c : Content) : (s.enqueue c).pending = s.pending := rfl

/-! ### leaveQueue -/

@[simp] theorem leaveQueue_station (age : Nat) : (s.leaveQueue age).station = s.station := rfl
@[simp] theorem leaveQueue_number (age : Nat) : (s.leaveQueue age).number = s.number := rfl
@[simp] theorem leaveQueue_neighbours (age : Nat) : (s.leaveQueue age).neighbours = s.neighbours := rfl
@[simp] theorem leaveQueue_eventThreshold (age : Nat) : (s.leaveQueue age).eventThreshold = s.eventThreshold := rfl
@[simp] theorem leaveQueue_settleBand (age : Nat) : (s.leaveQueue age).settleBand = s.settleBand := rfl
@[simp] theorem leaveQueue_motionLimit (age : Nat) : (s.leaveQueue age).motionLimit = s.motionLimit := rfl
@[simp] theorem leaveQueue_strayWindow (age : Nat) : (s.leaveQueue age).strayWindow = s.strayWindow := rfl
@[simp] theorem leaveQueue_imageClamped (age : Nat) : (s.leaveQueue age).imageClamped = s.imageClamped := rfl
@[simp] theorem leaveQueue_hashTable (age : Nat) : (s.leaveQueue age).hashTable = s.hashTable := rfl
@[simp] theorem leaveQueue_loadFault (age : Nat) : (s.leaveQueue age).loadFault = s.loadFault := rfl
@[simp] theorem leaveQueue_loader (age : Nat) : (s.leaveQueue age).loader = s.loader := rfl
@[simp] theorem leaveQueue_eeprom (age : Nat) : (s.leaveQueue age).eeprom = s.eeprom := rfl
@[simp] theorem leaveQueue_clock (age : Nat) : (s.leaveQueue age).clock = s.clock := rfl
@[simp] theorem leaveQueue_tallyAt (age : Nat) : (s.leaveQueue age).tallyAt = s.tallyAt := rfl
@[simp] theorem leaveQueue_faultAt (age : Nat) : (s.leaveQueue age).faultAt = s.faultAt := rfl
@[simp] theorem leaveQueue_rotation (age : Nat) : (s.leaveQueue age).rotation = s.rotation := rfl
@[simp] theorem leaveQueue_cells (age : Nat) : (s.leaveQueue age).cells = s.cells := rfl
@[simp] theorem leaveQueue_departureSerial (age : Nat) : (s.leaveQueue age).departureSerial = s.departureSerial := rfl
@[simp] theorem leaveQueue_log (age : Nat) : (s.leaveQueue age).log = s.log := rfl
@[simp] theorem leaveQueue_lines (age : Nat) : (s.leaveQueue age).lines = s.lines := rfl
@[simp] theorem leaveQueue_census (age : Nat) : (s.leaveQueue age).census = s.census := rfl
@[simp] theorem leaveQueue_access (age : Nat) : (s.leaveQueue age).access = s.access := rfl
@[simp] theorem leaveQueue_counters (age : Nat) : (s.leaveQueue age).counters = s.counters := rfl
@[simp] theorem leaveQueue_nextAge (age : Nat) : (s.leaveQueue age).nextAge = s.nextAge := rfl
@[simp] theorem leaveQueue_lastCommand (age : Nat) : (s.leaveQueue age).lastCommand = s.lastCommand := rfl
@[simp] theorem leaveQueue_lastResult (age : Nat) : (s.leaveQueue age).lastResult = s.lastResult := rfl
@[simp] theorem leaveQueue_restartPending (age : Nat) : (s.leaveQueue age).restartPending = s.restartPending := rfl
@[simp] theorem leaveQueue_lineLow (age : Nat) : (s.leaveQueue age).lineLow = s.lineLow := rfl
@[simp] theorem leaveQueue_key (age : Nat) : (s.leaveQueue age).key = s.key := rfl
@[simp] theorem leaveQueue_supply (age : Nat) : (s.leaveQueue age).supply = s.supply := rfl
@[simp] theorem leaveQueue_pending (age : Nat) : (s.leaveQueue age).pending = s.pending := rfl

/-! ### withdraw -/

@[simp] theorem withdraw_station (p : Content → Bool) : (s.withdraw p).station = s.station := rfl
@[simp] theorem withdraw_number (p : Content → Bool) : (s.withdraw p).number = s.number := rfl
@[simp] theorem withdraw_neighbours (p : Content → Bool) : (s.withdraw p).neighbours = s.neighbours := rfl
@[simp] theorem withdraw_eventThreshold (p : Content → Bool) : (s.withdraw p).eventThreshold = s.eventThreshold := rfl
@[simp] theorem withdraw_settleBand (p : Content → Bool) : (s.withdraw p).settleBand = s.settleBand := rfl
@[simp] theorem withdraw_motionLimit (p : Content → Bool) : (s.withdraw p).motionLimit = s.motionLimit := rfl
@[simp] theorem withdraw_strayWindow (p : Content → Bool) : (s.withdraw p).strayWindow = s.strayWindow := rfl
@[simp] theorem withdraw_imageClamped (p : Content → Bool) : (s.withdraw p).imageClamped = s.imageClamped := rfl
@[simp] theorem withdraw_hashTable (p : Content → Bool) : (s.withdraw p).hashTable = s.hashTable := rfl
@[simp] theorem withdraw_loadFault (p : Content → Bool) : (s.withdraw p).loadFault = s.loadFault := rfl
@[simp] theorem withdraw_loader (p : Content → Bool) : (s.withdraw p).loader = s.loader := rfl
@[simp] theorem withdraw_eeprom (p : Content → Bool) : (s.withdraw p).eeprom = s.eeprom := rfl
@[simp] theorem withdraw_clock (p : Content → Bool) : (s.withdraw p).clock = s.clock := rfl
@[simp] theorem withdraw_tallyAt (p : Content → Bool) : (s.withdraw p).tallyAt = s.tallyAt := rfl
@[simp] theorem withdraw_faultAt (p : Content → Bool) : (s.withdraw p).faultAt = s.faultAt := rfl
@[simp] theorem withdraw_rotation (p : Content → Bool) : (s.withdraw p).rotation = s.rotation := rfl
@[simp] theorem withdraw_cells (p : Content → Bool) : (s.withdraw p).cells = s.cells := rfl
@[simp] theorem withdraw_departureSerial (p : Content → Bool) : (s.withdraw p).departureSerial = s.departureSerial := rfl
@[simp] theorem withdraw_log (p : Content → Bool) : (s.withdraw p).log = s.log := rfl
@[simp] theorem withdraw_lines (p : Content → Bool) : (s.withdraw p).lines = s.lines := rfl
@[simp] theorem withdraw_census (p : Content → Bool) : (s.withdraw p).census = s.census := rfl
@[simp] theorem withdraw_access (p : Content → Bool) : (s.withdraw p).access = s.access := rfl
@[simp] theorem withdraw_counters (p : Content → Bool) : (s.withdraw p).counters = s.counters := rfl
@[simp] theorem withdraw_nextAge (p : Content → Bool) : (s.withdraw p).nextAge = s.nextAge := rfl
@[simp] theorem withdraw_lastCommand (p : Content → Bool) : (s.withdraw p).lastCommand = s.lastCommand := rfl
@[simp] theorem withdraw_lastResult (p : Content → Bool) : (s.withdraw p).lastResult = s.lastResult := rfl
@[simp] theorem withdraw_restartPending (p : Content → Bool) : (s.withdraw p).restartPending = s.restartPending := rfl
@[simp] theorem withdraw_lineLow (p : Content → Bool) : (s.withdraw p).lineLow = s.lineLow := rfl
@[simp] theorem withdraw_key (p : Content → Bool) : (s.withdraw p).key = s.key := rfl
@[simp] theorem withdraw_supply (p : Content → Bool) : (s.withdraw p).supply = s.supply := rfl
@[simp] theorem withdraw_pending (p : Content → Bool) : (s.withdraw p).pending = s.pending := rfl

/-! ### replaceFrame -/

@[simp] theorem replaceFrame_station (f : SendFrame) : (s.replaceFrame f).station = s.station := rfl
@[simp] theorem replaceFrame_number (f : SendFrame) : (s.replaceFrame f).number = s.number := rfl
@[simp] theorem replaceFrame_neighbours (f : SendFrame) : (s.replaceFrame f).neighbours = s.neighbours := rfl
@[simp] theorem replaceFrame_eventThreshold (f : SendFrame) : (s.replaceFrame f).eventThreshold = s.eventThreshold := rfl
@[simp] theorem replaceFrame_settleBand (f : SendFrame) : (s.replaceFrame f).settleBand = s.settleBand := rfl
@[simp] theorem replaceFrame_motionLimit (f : SendFrame) : (s.replaceFrame f).motionLimit = s.motionLimit := rfl
@[simp] theorem replaceFrame_strayWindow (f : SendFrame) : (s.replaceFrame f).strayWindow = s.strayWindow := rfl
@[simp] theorem replaceFrame_imageClamped (f : SendFrame) : (s.replaceFrame f).imageClamped = s.imageClamped := rfl
@[simp] theorem replaceFrame_hashTable (f : SendFrame) : (s.replaceFrame f).hashTable = s.hashTable := rfl
@[simp] theorem replaceFrame_loadFault (f : SendFrame) : (s.replaceFrame f).loadFault = s.loadFault := rfl
@[simp] theorem replaceFrame_loader (f : SendFrame) : (s.replaceFrame f).loader = s.loader := rfl
@[simp] theorem replaceFrame_eeprom (f : SendFrame) : (s.replaceFrame f).eeprom = s.eeprom := rfl
@[simp] theorem replaceFrame_clock (f : SendFrame) : (s.replaceFrame f).clock = s.clock := rfl
@[simp] theorem replaceFrame_tallyAt (f : SendFrame) : (s.replaceFrame f).tallyAt = s.tallyAt := rfl
@[simp] theorem replaceFrame_faultAt (f : SendFrame) : (s.replaceFrame f).faultAt = s.faultAt := rfl
@[simp] theorem replaceFrame_rotation (f : SendFrame) : (s.replaceFrame f).rotation = s.rotation := rfl
@[simp] theorem replaceFrame_cells (f : SendFrame) : (s.replaceFrame f).cells = s.cells := rfl
@[simp] theorem replaceFrame_departureSerial (f : SendFrame) : (s.replaceFrame f).departureSerial = s.departureSerial := rfl
@[simp] theorem replaceFrame_log (f : SendFrame) : (s.replaceFrame f).log = s.log := rfl
@[simp] theorem replaceFrame_lines (f : SendFrame) : (s.replaceFrame f).lines = s.lines := rfl
@[simp] theorem replaceFrame_census (f : SendFrame) : (s.replaceFrame f).census = s.census := rfl
@[simp] theorem replaceFrame_access (f : SendFrame) : (s.replaceFrame f).access = s.access := rfl
@[simp] theorem replaceFrame_counters (f : SendFrame) : (s.replaceFrame f).counters = s.counters := rfl
@[simp] theorem replaceFrame_nextAge (f : SendFrame) : (s.replaceFrame f).nextAge = s.nextAge := rfl
@[simp] theorem replaceFrame_lastCommand (f : SendFrame) : (s.replaceFrame f).lastCommand = s.lastCommand := rfl
@[simp] theorem replaceFrame_lastResult (f : SendFrame) : (s.replaceFrame f).lastResult = s.lastResult := rfl
@[simp] theorem replaceFrame_restartPending (f : SendFrame) : (s.replaceFrame f).restartPending = s.restartPending := rfl
@[simp] theorem replaceFrame_lineLow (f : SendFrame) : (s.replaceFrame f).lineLow = s.lineLow := rfl
@[simp] theorem replaceFrame_key (f : SendFrame) : (s.replaceFrame f).key = s.key := rfl
@[simp] theorem replaceFrame_supply (f : SendFrame) : (s.replaceFrame f).supply = s.supply := rfl
@[simp] theorem replaceFrame_pending (f : SendFrame) : (s.replaceFrame f).pending = s.pending := rfl

/-! ### setLastSender -/

@[simp] theorem setLastSender_station (n : Nat) : (s.setLastSender n).station = s.station := rfl
@[simp] theorem setLastSender_number (n : Nat) : (s.setLastSender n).number = s.number := rfl
@[simp] theorem setLastSender_neighbours (n : Nat) : (s.setLastSender n).neighbours = s.neighbours := rfl
@[simp] theorem setLastSender_eventThreshold (n : Nat) : (s.setLastSender n).eventThreshold = s.eventThreshold := rfl
@[simp] theorem setLastSender_settleBand (n : Nat) : (s.setLastSender n).settleBand = s.settleBand := rfl
@[simp] theorem setLastSender_motionLimit (n : Nat) : (s.setLastSender n).motionLimit = s.motionLimit := rfl
@[simp] theorem setLastSender_strayWindow (n : Nat) : (s.setLastSender n).strayWindow = s.strayWindow := rfl
@[simp] theorem setLastSender_imageClamped (n : Nat) : (s.setLastSender n).imageClamped = s.imageClamped := rfl
@[simp] theorem setLastSender_hashTable (n : Nat) : (s.setLastSender n).hashTable = s.hashTable := rfl
@[simp] theorem setLastSender_loadFault (n : Nat) : (s.setLastSender n).loadFault = s.loadFault := rfl
@[simp] theorem setLastSender_loader (n : Nat) : (s.setLastSender n).loader = s.loader := rfl
@[simp] theorem setLastSender_eeprom (n : Nat) : (s.setLastSender n).eeprom = s.eeprom := rfl
@[simp] theorem setLastSender_clock (n : Nat) : (s.setLastSender n).clock = s.clock := rfl
@[simp] theorem setLastSender_tallyAt (n : Nat) : (s.setLastSender n).tallyAt = s.tallyAt := rfl
@[simp] theorem setLastSender_faultAt (n : Nat) : (s.setLastSender n).faultAt = s.faultAt := rfl
@[simp] theorem setLastSender_rotation (n : Nat) : (s.setLastSender n).rotation = s.rotation := rfl
@[simp] theorem setLastSender_cells (n : Nat) : (s.setLastSender n).cells = s.cells := rfl
@[simp] theorem setLastSender_departureSerial (n : Nat) : (s.setLastSender n).departureSerial = s.departureSerial := rfl
@[simp] theorem setLastSender_log (n : Nat) : (s.setLastSender n).log = s.log := rfl
@[simp] theorem setLastSender_lines (n : Nat) : (s.setLastSender n).lines = s.lines := rfl
@[simp] theorem setLastSender_census (n : Nat) : (s.setLastSender n).census = s.census := rfl
@[simp] theorem setLastSender_counters (n : Nat) : (s.setLastSender n).counters = s.counters := rfl
@[simp] theorem setLastSender_queue (n : Nat) : (s.setLastSender n).queue = s.queue := rfl
@[simp] theorem setLastSender_nextAge (n : Nat) : (s.setLastSender n).nextAge = s.nextAge := rfl
@[simp] theorem setLastSender_lastCommand (n : Nat) : (s.setLastSender n).lastCommand = s.lastCommand := rfl
@[simp] theorem setLastSender_lastResult (n : Nat) : (s.setLastSender n).lastResult = s.lastResult := rfl
@[simp] theorem setLastSender_restartPending (n : Nat) : (s.setLastSender n).restartPending = s.restartPending := rfl
@[simp] theorem setLastSender_lineLow (n : Nat) : (s.setLastSender n).lineLow = s.lineLow := rfl
@[simp] theorem setLastSender_key (n : Nat) : (s.setLastSender n).key = s.key := rfl
@[simp] theorem setLastSender_supply (n : Nat) : (s.setLastSender n).supply = s.supply := rfl
@[simp] theorem setLastSender_pending (n : Nat) : (s.setLastSender n).pending = s.pending := rfl

/-! ### awaitIdle -/

@[simp] theorem awaitIdle_station : (s.awaitIdle).station = s.station := rfl
@[simp] theorem awaitIdle_number : (s.awaitIdle).number = s.number := rfl
@[simp] theorem awaitIdle_neighbours : (s.awaitIdle).neighbours = s.neighbours := rfl
@[simp] theorem awaitIdle_eventThreshold : (s.awaitIdle).eventThreshold = s.eventThreshold := rfl
@[simp] theorem awaitIdle_settleBand : (s.awaitIdle).settleBand = s.settleBand := rfl
@[simp] theorem awaitIdle_motionLimit : (s.awaitIdle).motionLimit = s.motionLimit := rfl
@[simp] theorem awaitIdle_strayWindow : (s.awaitIdle).strayWindow = s.strayWindow := rfl
@[simp] theorem awaitIdle_imageClamped : (s.awaitIdle).imageClamped = s.imageClamped := rfl
@[simp] theorem awaitIdle_hashTable : (s.awaitIdle).hashTable = s.hashTable := rfl
@[simp] theorem awaitIdle_loadFault : (s.awaitIdle).loadFault = s.loadFault := rfl
@[simp] theorem awaitIdle_loader : (s.awaitIdle).loader = s.loader := rfl
@[simp] theorem awaitIdle_eeprom : (s.awaitIdle).eeprom = s.eeprom := rfl
@[simp] theorem awaitIdle_clock : (s.awaitIdle).clock = s.clock := rfl
@[simp] theorem awaitIdle_tallyAt : (s.awaitIdle).tallyAt = s.tallyAt := rfl
@[simp] theorem awaitIdle_faultAt : (s.awaitIdle).faultAt = s.faultAt := rfl
@[simp] theorem awaitIdle_rotation : (s.awaitIdle).rotation = s.rotation := rfl
@[simp] theorem awaitIdle_cells : (s.awaitIdle).cells = s.cells := rfl
@[simp] theorem awaitIdle_departureSerial : (s.awaitIdle).departureSerial = s.departureSerial := rfl
@[simp] theorem awaitIdle_log : (s.awaitIdle).log = s.log := rfl
@[simp] theorem awaitIdle_lines : (s.awaitIdle).lines = s.lines := rfl
@[simp] theorem awaitIdle_census : (s.awaitIdle).census = s.census := rfl
@[simp] theorem awaitIdle_counters : (s.awaitIdle).counters = s.counters := rfl
@[simp] theorem awaitIdle_queue : (s.awaitIdle).queue = s.queue := rfl
@[simp] theorem awaitIdle_nextAge : (s.awaitIdle).nextAge = s.nextAge := rfl
@[simp] theorem awaitIdle_lastCommand : (s.awaitIdle).lastCommand = s.lastCommand := rfl
@[simp] theorem awaitIdle_lastResult : (s.awaitIdle).lastResult = s.lastResult := rfl
@[simp] theorem awaitIdle_restartPending : (s.awaitIdle).restartPending = s.restartPending := rfl
@[simp] theorem awaitIdle_lineLow : (s.awaitIdle).lineLow = s.lineLow := rfl
@[simp] theorem awaitIdle_key : (s.awaitIdle).key = s.key := rfl
@[simp] theorem awaitIdle_supply : (s.awaitIdle).supply = s.supply := rfl
@[simp] theorem awaitIdle_pending : (s.awaitIdle).pending = s.pending := rfl

/-! ### hearCarrier -/

@[simp] theorem hearCarrier_station (glitch : Bool) : (s.hearCarrier glitch).station = s.station := rfl
@[simp] theorem hearCarrier_number (glitch : Bool) : (s.hearCarrier glitch).number = s.number := rfl
@[simp] theorem hearCarrier_neighbours (glitch : Bool) : (s.hearCarrier glitch).neighbours = s.neighbours := rfl
@[simp] theorem hearCarrier_eventThreshold (glitch : Bool) : (s.hearCarrier glitch).eventThreshold = s.eventThreshold := rfl
@[simp] theorem hearCarrier_settleBand (glitch : Bool) : (s.hearCarrier glitch).settleBand = s.settleBand := rfl
@[simp] theorem hearCarrier_motionLimit (glitch : Bool) : (s.hearCarrier glitch).motionLimit = s.motionLimit := rfl
@[simp] theorem hearCarrier_strayWindow (glitch : Bool) : (s.hearCarrier glitch).strayWindow = s.strayWindow := rfl
@[simp] theorem hearCarrier_imageClamped (glitch : Bool) : (s.hearCarrier glitch).imageClamped = s.imageClamped := rfl
@[simp] theorem hearCarrier_hashTable (glitch : Bool) : (s.hearCarrier glitch).hashTable = s.hashTable := rfl
@[simp] theorem hearCarrier_loadFault (glitch : Bool) : (s.hearCarrier glitch).loadFault = s.loadFault := rfl
@[simp] theorem hearCarrier_loader (glitch : Bool) : (s.hearCarrier glitch).loader = s.loader := rfl
@[simp] theorem hearCarrier_eeprom (glitch : Bool) : (s.hearCarrier glitch).eeprom = s.eeprom := rfl
@[simp] theorem hearCarrier_clock (glitch : Bool) : (s.hearCarrier glitch).clock = s.clock := rfl
@[simp] theorem hearCarrier_tallyAt (glitch : Bool) : (s.hearCarrier glitch).tallyAt = s.tallyAt := rfl
@[simp] theorem hearCarrier_faultAt (glitch : Bool) : (s.hearCarrier glitch).faultAt = s.faultAt := rfl
@[simp] theorem hearCarrier_rotation (glitch : Bool) : (s.hearCarrier glitch).rotation = s.rotation := rfl
@[simp] theorem hearCarrier_cells (glitch : Bool) : (s.hearCarrier glitch).cells = s.cells := rfl
@[simp] theorem hearCarrier_departureSerial (glitch : Bool) : (s.hearCarrier glitch).departureSerial = s.departureSerial := rfl
@[simp] theorem hearCarrier_log (glitch : Bool) : (s.hearCarrier glitch).log = s.log := rfl
@[simp] theorem hearCarrier_lines (glitch : Bool) : (s.hearCarrier glitch).lines = s.lines := rfl
@[simp] theorem hearCarrier_census (glitch : Bool) : (s.hearCarrier glitch).census = s.census := rfl
@[simp] theorem hearCarrier_counters (glitch : Bool) : (s.hearCarrier glitch).counters = s.counters := rfl
@[simp] theorem hearCarrier_queue (glitch : Bool) : (s.hearCarrier glitch).queue = s.queue := rfl
@[simp] theorem hearCarrier_nextAge (glitch : Bool) : (s.hearCarrier glitch).nextAge = s.nextAge := rfl
@[simp] theorem hearCarrier_lastCommand (glitch : Bool) : (s.hearCarrier glitch).lastCommand = s.lastCommand := rfl
@[simp] theorem hearCarrier_lastResult (glitch : Bool) : (s.hearCarrier glitch).lastResult = s.lastResult := rfl
@[simp] theorem hearCarrier_restartPending (glitch : Bool) : (s.hearCarrier glitch).restartPending = s.restartPending := rfl
@[simp] theorem hearCarrier_lineLow (glitch : Bool) : (s.hearCarrier glitch).lineLow = s.lineLow := rfl
@[simp] theorem hearCarrier_key (glitch : Bool) : (s.hearCarrier glitch).key = s.key := rfl
@[simp] theorem hearCarrier_supply (glitch : Bool) : (s.hearCarrier glitch).supply = s.supply := rfl
@[simp] theorem hearCarrier_pending (glitch : Bool) : (s.hearCarrier glitch).pending = s.pending := rfl

/-! ### setLast -/

@[simp] theorem setLast_station (k : CommandCode) (r : ResultCode) : (s.setLast k r).station = s.station := rfl
@[simp] theorem setLast_number (k : CommandCode) (r : ResultCode) : (s.setLast k r).number = s.number := rfl
@[simp] theorem setLast_neighbours (k : CommandCode) (r : ResultCode) : (s.setLast k r).neighbours = s.neighbours := rfl
@[simp] theorem setLast_eventThreshold (k : CommandCode) (r : ResultCode) : (s.setLast k r).eventThreshold = s.eventThreshold := rfl
@[simp] theorem setLast_settleBand (k : CommandCode) (r : ResultCode) : (s.setLast k r).settleBand = s.settleBand := rfl
@[simp] theorem setLast_motionLimit (k : CommandCode) (r : ResultCode) : (s.setLast k r).motionLimit = s.motionLimit := rfl
@[simp] theorem setLast_strayWindow (k : CommandCode) (r : ResultCode) : (s.setLast k r).strayWindow = s.strayWindow := rfl
@[simp] theorem setLast_imageClamped (k : CommandCode) (r : ResultCode) : (s.setLast k r).imageClamped = s.imageClamped := rfl
@[simp] theorem setLast_hashTable (k : CommandCode) (r : ResultCode) : (s.setLast k r).hashTable = s.hashTable := rfl
@[simp] theorem setLast_loadFault (k : CommandCode) (r : ResultCode) : (s.setLast k r).loadFault = s.loadFault := rfl
@[simp] theorem setLast_loader (k : CommandCode) (r : ResultCode) : (s.setLast k r).loader = s.loader := rfl
@[simp] theorem setLast_eeprom (k : CommandCode) (r : ResultCode) : (s.setLast k r).eeprom = s.eeprom := rfl
@[simp] theorem setLast_clock (k : CommandCode) (r : ResultCode) : (s.setLast k r).clock = s.clock := rfl
@[simp] theorem setLast_tallyAt (k : CommandCode) (r : ResultCode) : (s.setLast k r).tallyAt = s.tallyAt := rfl
@[simp] theorem setLast_faultAt (k : CommandCode) (r : ResultCode) : (s.setLast k r).faultAt = s.faultAt := rfl
@[simp] theorem setLast_rotation (k : CommandCode) (r : ResultCode) : (s.setLast k r).rotation = s.rotation := rfl
@[simp] theorem setLast_cells (k : CommandCode) (r : ResultCode) : (s.setLast k r).cells = s.cells := rfl
@[simp] theorem setLast_departureSerial (k : CommandCode) (r : ResultCode) : (s.setLast k r).departureSerial = s.departureSerial := rfl
@[simp] theorem setLast_log (k : CommandCode) (r : ResultCode) : (s.setLast k r).log = s.log := rfl
@[simp] theorem setLast_lines (k : CommandCode) (r : ResultCode) : (s.setLast k r).lines = s.lines := rfl
@[simp] theorem setLast_census (k : CommandCode) (r : ResultCode) : (s.setLast k r).census = s.census := rfl
@[simp] theorem setLast_access (k : CommandCode) (r : ResultCode) : (s.setLast k r).access = s.access := rfl
@[simp] theorem setLast_counters (k : CommandCode) (r : ResultCode) : (s.setLast k r).counters = s.counters := rfl
@[simp] theorem setLast_queue (k : CommandCode) (r : ResultCode) : (s.setLast k r).queue = s.queue := rfl
@[simp] theorem setLast_nextAge (k : CommandCode) (r : ResultCode) : (s.setLast k r).nextAge = s.nextAge := rfl
@[simp] theorem setLast_restartPending (k : CommandCode) (r : ResultCode) : (s.setLast k r).restartPending = s.restartPending := rfl
@[simp] theorem setLast_lineLow (k : CommandCode) (r : ResultCode) : (s.setLast k r).lineLow = s.lineLow := rfl
@[simp] theorem setLast_key (k : CommandCode) (r : ResultCode) : (s.setLast k r).key = s.key := rfl
@[simp] theorem setLast_supply (k : CommandCode) (r : ResultCode) : (s.setLast k r).supply = s.supply := rfl
@[simp] theorem setLast_pending (k : CommandCode) (r : ResultCode) : (s.setLast k r).pending = s.pending := rfl

/-! ### badFrame -/

@[simp] theorem badFrame_station : (s.badFrame).station = s.station := rfl
@[simp] theorem badFrame_number : (s.badFrame).number = s.number := rfl
@[simp] theorem badFrame_neighbours : (s.badFrame).neighbours = s.neighbours := rfl
@[simp] theorem badFrame_eventThreshold : (s.badFrame).eventThreshold = s.eventThreshold := rfl
@[simp] theorem badFrame_settleBand : (s.badFrame).settleBand = s.settleBand := rfl
@[simp] theorem badFrame_motionLimit : (s.badFrame).motionLimit = s.motionLimit := rfl
@[simp] theorem badFrame_strayWindow : (s.badFrame).strayWindow = s.strayWindow := rfl
@[simp] theorem badFrame_imageClamped : (s.badFrame).imageClamped = s.imageClamped := rfl
@[simp] theorem badFrame_hashTable : (s.badFrame).hashTable = s.hashTable := rfl
@[simp] theorem badFrame_loadFault : (s.badFrame).loadFault = s.loadFault := rfl
@[simp] theorem badFrame_loader : (s.badFrame).loader = s.loader := rfl
@[simp] theorem badFrame_eeprom : (s.badFrame).eeprom = s.eeprom := rfl
@[simp] theorem badFrame_clock : (s.badFrame).clock = s.clock := rfl
@[simp] theorem badFrame_tallyAt : (s.badFrame).tallyAt = s.tallyAt := rfl
@[simp] theorem badFrame_faultAt : (s.badFrame).faultAt = s.faultAt := rfl
@[simp] theorem badFrame_rotation : (s.badFrame).rotation = s.rotation := rfl
@[simp] theorem badFrame_cells : (s.badFrame).cells = s.cells := rfl
@[simp] theorem badFrame_departureSerial : (s.badFrame).departureSerial = s.departureSerial := rfl
@[simp] theorem badFrame_log : (s.badFrame).log = s.log := rfl
@[simp] theorem badFrame_lines : (s.badFrame).lines = s.lines := rfl
@[simp] theorem badFrame_census : (s.badFrame).census = s.census := rfl
@[simp] theorem badFrame_queue : (s.badFrame).queue = s.queue := rfl
@[simp] theorem badFrame_nextAge : (s.badFrame).nextAge = s.nextAge := rfl
@[simp] theorem badFrame_lastCommand : (s.badFrame).lastCommand = s.lastCommand := rfl
@[simp] theorem badFrame_lastResult : (s.badFrame).lastResult = s.lastResult := rfl
@[simp] theorem badFrame_restartPending : (s.badFrame).restartPending = s.restartPending := rfl
@[simp] theorem badFrame_lineLow : (s.badFrame).lineLow = s.lineLow := rfl
@[simp] theorem badFrame_key : (s.badFrame).key = s.key := rfl
@[simp] theorem badFrame_supply : (s.badFrame).supply = s.supply := rfl
@[simp] theorem badFrame_pending : (s.badFrame).pending = s.pending := rfl

/-! ### passBitTime -/

@[simp] theorem passBitTime_station : (s.passBitTime).station = s.station := rfl
@[simp] theorem passBitTime_number : (s.passBitTime).number = s.number := rfl
@[simp] theorem passBitTime_neighbours : (s.passBitTime).neighbours = s.neighbours := rfl
@[simp] theorem passBitTime_eventThreshold : (s.passBitTime).eventThreshold = s.eventThreshold := rfl
@[simp] theorem passBitTime_settleBand : (s.passBitTime).settleBand = s.settleBand := rfl
@[simp] theorem passBitTime_motionLimit : (s.passBitTime).motionLimit = s.motionLimit := rfl
@[simp] theorem passBitTime_strayWindow : (s.passBitTime).strayWindow = s.strayWindow := rfl
@[simp] theorem passBitTime_imageClamped : (s.passBitTime).imageClamped = s.imageClamped := rfl
@[simp] theorem passBitTime_hashTable : (s.passBitTime).hashTable = s.hashTable := rfl
@[simp] theorem passBitTime_loadFault : (s.passBitTime).loadFault = s.loadFault := rfl
@[simp] theorem passBitTime_loader : (s.passBitTime).loader = s.loader := rfl
@[simp] theorem passBitTime_eeprom : (s.passBitTime).eeprom = s.eeprom := rfl
@[simp] theorem passBitTime_clock : s.passBitTime.clock = if s.clockRuns then s.clock + 1 else s.clock := rfl
@[simp] theorem passBitTime_lineLow : s.passBitTime.lineLow = s.lineLow - 1 := rfl
@[simp] theorem passBitTime_tallyAt : (s.passBitTime).tallyAt = s.tallyAt := rfl
@[simp] theorem passBitTime_faultAt : (s.passBitTime).faultAt = s.faultAt := rfl
@[simp] theorem passBitTime_rotation : (s.passBitTime).rotation = s.rotation := rfl
@[simp] theorem passBitTime_cells : (s.passBitTime).cells = s.cells := rfl
@[simp] theorem passBitTime_departureSerial : (s.passBitTime).departureSerial = s.departureSerial := rfl
@[simp] theorem passBitTime_log : (s.passBitTime).log = s.log := rfl
@[simp] theorem passBitTime_lines : (s.passBitTime).lines = s.lines := rfl
@[simp] theorem passBitTime_census : (s.passBitTime).census = s.census := rfl
@[simp] theorem passBitTime_counters : (s.passBitTime).counters = s.counters := rfl
@[simp] theorem passBitTime_queue : (s.passBitTime).queue = s.queue := rfl
@[simp] theorem passBitTime_nextAge : (s.passBitTime).nextAge = s.nextAge := rfl
@[simp] theorem passBitTime_lastCommand : (s.passBitTime).lastCommand = s.lastCommand := rfl
@[simp] theorem passBitTime_lastResult : (s.passBitTime).lastResult = s.lastResult := rfl
@[simp] theorem passBitTime_restartPending : (s.passBitTime).restartPending = s.restartPending := rfl
@[simp] theorem passBitTime_key : (s.passBitTime).key = s.key := rfl
@[simp] theorem passBitTime_supply : (s.passBitTime).supply = s.supply := rfl
@[simp] theorem passBitTime_pending : (s.passBitTime).pending = s.pending := rfl

/-! ### countTaken -/

@[simp] theorem countTaken_station : (s.countTaken).station = s.station := rfl
@[simp] theorem countTaken_number : (s.countTaken).number = s.number := rfl
@[simp] theorem countTaken_neighbours : (s.countTaken).neighbours = s.neighbours := rfl
@[simp] theorem countTaken_eventThreshold : (s.countTaken).eventThreshold = s.eventThreshold := rfl
@[simp] theorem countTaken_settleBand : (s.countTaken).settleBand = s.settleBand := rfl
@[simp] theorem countTaken_motionLimit : (s.countTaken).motionLimit = s.motionLimit := rfl
@[simp] theorem countTaken_strayWindow : (s.countTaken).strayWindow = s.strayWindow := rfl
@[simp] theorem countTaken_imageClamped : (s.countTaken).imageClamped = s.imageClamped := rfl
@[simp] theorem countTaken_hashTable : (s.countTaken).hashTable = s.hashTable := rfl
@[simp] theorem countTaken_loadFault : (s.countTaken).loadFault = s.loadFault := rfl
@[simp] theorem countTaken_loader : (s.countTaken).loader = s.loader := rfl
@[simp] theorem countTaken_eeprom : (s.countTaken).eeprom = s.eeprom := rfl
@[simp] theorem countTaken_clock : (s.countTaken).clock = s.clock := rfl
@[simp] theorem countTaken_tallyAt : (s.countTaken).tallyAt = s.tallyAt := rfl
@[simp] theorem countTaken_faultAt : (s.countTaken).faultAt = s.faultAt := rfl
@[simp] theorem countTaken_rotation : (s.countTaken).rotation = s.rotation := rfl
@[simp] theorem countTaken_cells : (s.countTaken).cells = s.cells := rfl
@[simp] theorem countTaken_departureSerial : (s.countTaken).departureSerial = s.departureSerial := rfl
@[simp] theorem countTaken_log : (s.countTaken).log = s.log := rfl
@[simp] theorem countTaken_lines : (s.countTaken).lines = s.lines := rfl
@[simp] theorem countTaken_census : (s.countTaken).census = s.census := rfl
@[simp] theorem countTaken_access : (s.countTaken).access = s.access := rfl
@[simp] theorem countTaken_queue : (s.countTaken).queue = s.queue := rfl
@[simp] theorem countTaken_nextAge : (s.countTaken).nextAge = s.nextAge := rfl
@[simp] theorem countTaken_lastCommand : (s.countTaken).lastCommand = s.lastCommand := rfl
@[simp] theorem countTaken_lastResult : (s.countTaken).lastResult = s.lastResult := rfl
@[simp] theorem countTaken_restartPending : (s.countTaken).restartPending = s.restartPending := rfl
@[simp] theorem countTaken_lineLow : (s.countTaken).lineLow = s.lineLow := rfl
@[simp] theorem countTaken_key : (s.countTaken).key = s.key := rfl
@[simp] theorem countTaken_supply : (s.countTaken).supply = s.supply := rfl
@[simp] theorem countTaken_pending : (s.countTaken).pending = s.pending := rfl

/-! ### countBad -/

@[simp] theorem countBad_station : (s.countBad).station = s.station := rfl
@[simp] theorem countBad_number : (s.countBad).number = s.number := rfl
@[simp] theorem countBad_neighbours : (s.countBad).neighbours = s.neighbours := rfl
@[simp] theorem countBad_eventThreshold : (s.countBad).eventThreshold = s.eventThreshold := rfl
@[simp] theorem countBad_settleBand : (s.countBad).settleBand = s.settleBand := rfl
@[simp] theorem countBad_motionLimit : (s.countBad).motionLimit = s.motionLimit := rfl
@[simp] theorem countBad_strayWindow : (s.countBad).strayWindow = s.strayWindow := rfl
@[simp] theorem countBad_imageClamped : (s.countBad).imageClamped = s.imageClamped := rfl
@[simp] theorem countBad_hashTable : (s.countBad).hashTable = s.hashTable := rfl
@[simp] theorem countBad_loadFault : (s.countBad).loadFault = s.loadFault := rfl
@[simp] theorem countBad_loader : (s.countBad).loader = s.loader := rfl
@[simp] theorem countBad_eeprom : (s.countBad).eeprom = s.eeprom := rfl
@[simp] theorem countBad_clock : (s.countBad).clock = s.clock := rfl
@[simp] theorem countBad_tallyAt : (s.countBad).tallyAt = s.tallyAt := rfl
@[simp] theorem countBad_faultAt : (s.countBad).faultAt = s.faultAt := rfl
@[simp] theorem countBad_rotation : (s.countBad).rotation = s.rotation := rfl
@[simp] theorem countBad_cells : (s.countBad).cells = s.cells := rfl
@[simp] theorem countBad_departureSerial : (s.countBad).departureSerial = s.departureSerial := rfl
@[simp] theorem countBad_log : (s.countBad).log = s.log := rfl
@[simp] theorem countBad_lines : (s.countBad).lines = s.lines := rfl
@[simp] theorem countBad_census : (s.countBad).census = s.census := rfl
@[simp] theorem countBad_access : (s.countBad).access = s.access := rfl
@[simp] theorem countBad_queue : (s.countBad).queue = s.queue := rfl
@[simp] theorem countBad_nextAge : (s.countBad).nextAge = s.nextAge := rfl
@[simp] theorem countBad_lastCommand : (s.countBad).lastCommand = s.lastCommand := rfl
@[simp] theorem countBad_lastResult : (s.countBad).lastResult = s.lastResult := rfl
@[simp] theorem countBad_restartPending : (s.countBad).restartPending = s.restartPending := rfl
@[simp] theorem countBad_lineLow : (s.countBad).lineLow = s.lineLow := rfl
@[simp] theorem countBad_key : (s.countBad).key = s.key := rfl
@[simp] theorem countBad_supply : (s.countBad).supply = s.supply := rfl
@[simp] theorem countBad_pending : (s.countBad).pending = s.pending := rfl

/-! ### countOverLength -/

@[simp] theorem countOverLength_station : (s.countOverLength).station = s.station := rfl
@[simp] theorem countOverLength_number : (s.countOverLength).number = s.number := rfl
@[simp] theorem countOverLength_neighbours : (s.countOverLength).neighbours = s.neighbours := rfl
@[simp] theorem countOverLength_eventThreshold : (s.countOverLength).eventThreshold = s.eventThreshold := rfl
@[simp] theorem countOverLength_settleBand : (s.countOverLength).settleBand = s.settleBand := rfl
@[simp] theorem countOverLength_motionLimit : (s.countOverLength).motionLimit = s.motionLimit := rfl
@[simp] theorem countOverLength_strayWindow : (s.countOverLength).strayWindow = s.strayWindow := rfl
@[simp] theorem countOverLength_imageClamped : (s.countOverLength).imageClamped = s.imageClamped := rfl
@[simp] theorem countOverLength_hashTable : (s.countOverLength).hashTable = s.hashTable := rfl
@[simp] theorem countOverLength_loadFault : (s.countOverLength).loadFault = s.loadFault := rfl
@[simp] theorem countOverLength_loader : (s.countOverLength).loader = s.loader := rfl
@[simp] theorem countOverLength_eeprom : (s.countOverLength).eeprom = s.eeprom := rfl
@[simp] theorem countOverLength_clock : (s.countOverLength).clock = s.clock := rfl
@[simp] theorem countOverLength_tallyAt : (s.countOverLength).tallyAt = s.tallyAt := rfl
@[simp] theorem countOverLength_faultAt : (s.countOverLength).faultAt = s.faultAt := rfl
@[simp] theorem countOverLength_rotation : (s.countOverLength).rotation = s.rotation := rfl
@[simp] theorem countOverLength_cells : (s.countOverLength).cells = s.cells := rfl
@[simp] theorem countOverLength_departureSerial : (s.countOverLength).departureSerial = s.departureSerial := rfl
@[simp] theorem countOverLength_log : (s.countOverLength).log = s.log := rfl
@[simp] theorem countOverLength_lines : (s.countOverLength).lines = s.lines := rfl
@[simp] theorem countOverLength_census : (s.countOverLength).census = s.census := rfl
@[simp] theorem countOverLength_access : (s.countOverLength).access = s.access := rfl
@[simp] theorem countOverLength_queue : (s.countOverLength).queue = s.queue := rfl
@[simp] theorem countOverLength_nextAge : (s.countOverLength).nextAge = s.nextAge := rfl
@[simp] theorem countOverLength_lastCommand : (s.countOverLength).lastCommand = s.lastCommand := rfl
@[simp] theorem countOverLength_lastResult : (s.countOverLength).lastResult = s.lastResult := rfl
@[simp] theorem countOverLength_restartPending : (s.countOverLength).restartPending = s.restartPending := rfl
@[simp] theorem countOverLength_lineLow : (s.countOverLength).lineLow = s.lineLow := rfl
@[simp] theorem countOverLength_key : (s.countOverLength).key = s.key := rfl
@[simp] theorem countOverLength_supply : (s.countOverLength).supply = s.supply := rfl
@[simp] theorem countOverLength_pending : (s.countOverLength).pending = s.pending := rfl

/-! ### countFiltered -/

@[simp] theorem countFiltered_station : (s.countFiltered).station = s.station := rfl
@[simp] theorem countFiltered_number : (s.countFiltered).number = s.number := rfl
@[simp] theorem countFiltered_neighbours : (s.countFiltered).neighbours = s.neighbours := rfl
@[simp] theorem countFiltered_eventThreshold : (s.countFiltered).eventThreshold = s.eventThreshold := rfl
@[simp] theorem countFiltered_settleBand : (s.countFiltered).settleBand = s.settleBand := rfl
@[simp] theorem countFiltered_motionLimit : (s.countFiltered).motionLimit = s.motionLimit := rfl
@[simp] theorem countFiltered_strayWindow : (s.countFiltered).strayWindow = s.strayWindow := rfl
@[simp] theorem countFiltered_imageClamped : (s.countFiltered).imageClamped = s.imageClamped := rfl
@[simp] theorem countFiltered_hashTable : (s.countFiltered).hashTable = s.hashTable := rfl
@[simp] theorem countFiltered_loadFault : (s.countFiltered).loadFault = s.loadFault := rfl
@[simp] theorem countFiltered_loader : (s.countFiltered).loader = s.loader := rfl
@[simp] theorem countFiltered_eeprom : (s.countFiltered).eeprom = s.eeprom := rfl
@[simp] theorem countFiltered_clock : (s.countFiltered).clock = s.clock := rfl
@[simp] theorem countFiltered_tallyAt : (s.countFiltered).tallyAt = s.tallyAt := rfl
@[simp] theorem countFiltered_faultAt : (s.countFiltered).faultAt = s.faultAt := rfl
@[simp] theorem countFiltered_rotation : (s.countFiltered).rotation = s.rotation := rfl
@[simp] theorem countFiltered_cells : (s.countFiltered).cells = s.cells := rfl
@[simp] theorem countFiltered_departureSerial : (s.countFiltered).departureSerial = s.departureSerial := rfl
@[simp] theorem countFiltered_log : (s.countFiltered).log = s.log := rfl
@[simp] theorem countFiltered_lines : (s.countFiltered).lines = s.lines := rfl
@[simp] theorem countFiltered_census : (s.countFiltered).census = s.census := rfl
@[simp] theorem countFiltered_access : (s.countFiltered).access = s.access := rfl
@[simp] theorem countFiltered_queue : (s.countFiltered).queue = s.queue := rfl
@[simp] theorem countFiltered_nextAge : (s.countFiltered).nextAge = s.nextAge := rfl
@[simp] theorem countFiltered_lastCommand : (s.countFiltered).lastCommand = s.lastCommand := rfl
@[simp] theorem countFiltered_lastResult : (s.countFiltered).lastResult = s.lastResult := rfl
@[simp] theorem countFiltered_restartPending : (s.countFiltered).restartPending = s.restartPending := rfl
@[simp] theorem countFiltered_lineLow : (s.countFiltered).lineLow = s.lineLow := rfl
@[simp] theorem countFiltered_key : (s.countFiltered).key = s.key := rfl
@[simp] theorem countFiltered_supply : (s.countFiltered).supply = s.supply := rfl
@[simp] theorem countFiltered_pending : (s.countFiltered).pending = s.pending := rfl

/-! ### countUnknown -/

@[simp] theorem countUnknown_station : (s.countUnknown).station = s.station := rfl
@[simp] theorem countUnknown_number : (s.countUnknown).number = s.number := rfl
@[simp] theorem countUnknown_neighbours : (s.countUnknown).neighbours = s.neighbours := rfl
@[simp] theorem countUnknown_eventThreshold : (s.countUnknown).eventThreshold = s.eventThreshold := rfl
@[simp] theorem countUnknown_settleBand : (s.countUnknown).settleBand = s.settleBand := rfl
@[simp] theorem countUnknown_motionLimit : (s.countUnknown).motionLimit = s.motionLimit := rfl
@[simp] theorem countUnknown_strayWindow : (s.countUnknown).strayWindow = s.strayWindow := rfl
@[simp] theorem countUnknown_imageClamped : (s.countUnknown).imageClamped = s.imageClamped := rfl
@[simp] theorem countUnknown_hashTable : (s.countUnknown).hashTable = s.hashTable := rfl
@[simp] theorem countUnknown_loadFault : (s.countUnknown).loadFault = s.loadFault := rfl
@[simp] theorem countUnknown_loader : (s.countUnknown).loader = s.loader := rfl
@[simp] theorem countUnknown_eeprom : (s.countUnknown).eeprom = s.eeprom := rfl
@[simp] theorem countUnknown_clock : (s.countUnknown).clock = s.clock := rfl
@[simp] theorem countUnknown_tallyAt : (s.countUnknown).tallyAt = s.tallyAt := rfl
@[simp] theorem countUnknown_faultAt : (s.countUnknown).faultAt = s.faultAt := rfl
@[simp] theorem countUnknown_rotation : (s.countUnknown).rotation = s.rotation := rfl
@[simp] theorem countUnknown_cells : (s.countUnknown).cells = s.cells := rfl
@[simp] theorem countUnknown_departureSerial : (s.countUnknown).departureSerial = s.departureSerial := rfl
@[simp] theorem countUnknown_log : (s.countUnknown).log = s.log := rfl
@[simp] theorem countUnknown_lines : (s.countUnknown).lines = s.lines := rfl
@[simp] theorem countUnknown_census : (s.countUnknown).census = s.census := rfl
@[simp] theorem countUnknown_access : (s.countUnknown).access = s.access := rfl
@[simp] theorem countUnknown_queue : (s.countUnknown).queue = s.queue := rfl
@[simp] theorem countUnknown_nextAge : (s.countUnknown).nextAge = s.nextAge := rfl
@[simp] theorem countUnknown_lastCommand : (s.countUnknown).lastCommand = s.lastCommand := rfl
@[simp] theorem countUnknown_lastResult : (s.countUnknown).lastResult = s.lastResult := rfl
@[simp] theorem countUnknown_restartPending : (s.countUnknown).restartPending = s.restartPending := rfl
@[simp] theorem countUnknown_lineLow : (s.countUnknown).lineLow = s.lineLow := rfl
@[simp] theorem countUnknown_key : (s.countUnknown).key = s.key := rfl
@[simp] theorem countUnknown_supply : (s.countUnknown).supply = s.supply := rfl
@[simp] theorem countUnknown_pending : (s.countUnknown).pending = s.pending := rfl

/-! ### countCollision -/

@[simp] theorem countCollision_station : (s.countCollision).station = s.station := rfl
@[simp] theorem countCollision_number : (s.countCollision).number = s.number := rfl
@[simp] theorem countCollision_neighbours : (s.countCollision).neighbours = s.neighbours := rfl
@[simp] theorem countCollision_eventThreshold : (s.countCollision).eventThreshold = s.eventThreshold := rfl
@[simp] theorem countCollision_settleBand : (s.countCollision).settleBand = s.settleBand := rfl
@[simp] theorem countCollision_motionLimit : (s.countCollision).motionLimit = s.motionLimit := rfl
@[simp] theorem countCollision_strayWindow : (s.countCollision).strayWindow = s.strayWindow := rfl
@[simp] theorem countCollision_imageClamped : (s.countCollision).imageClamped = s.imageClamped := rfl
@[simp] theorem countCollision_hashTable : (s.countCollision).hashTable = s.hashTable := rfl
@[simp] theorem countCollision_loadFault : (s.countCollision).loadFault = s.loadFault := rfl
@[simp] theorem countCollision_loader : (s.countCollision).loader = s.loader := rfl
@[simp] theorem countCollision_eeprom : (s.countCollision).eeprom = s.eeprom := rfl
@[simp] theorem countCollision_clock : (s.countCollision).clock = s.clock := rfl
@[simp] theorem countCollision_tallyAt : (s.countCollision).tallyAt = s.tallyAt := rfl
@[simp] theorem countCollision_faultAt : (s.countCollision).faultAt = s.faultAt := rfl
@[simp] theorem countCollision_rotation : (s.countCollision).rotation = s.rotation := rfl
@[simp] theorem countCollision_cells : (s.countCollision).cells = s.cells := rfl
@[simp] theorem countCollision_departureSerial : (s.countCollision).departureSerial = s.departureSerial := rfl
@[simp] theorem countCollision_log : (s.countCollision).log = s.log := rfl
@[simp] theorem countCollision_lines : (s.countCollision).lines = s.lines := rfl
@[simp] theorem countCollision_census : (s.countCollision).census = s.census := rfl
@[simp] theorem countCollision_access : (s.countCollision).access = s.access := rfl
@[simp] theorem countCollision_queue : (s.countCollision).queue = s.queue := rfl
@[simp] theorem countCollision_nextAge : (s.countCollision).nextAge = s.nextAge := rfl
@[simp] theorem countCollision_lastCommand : (s.countCollision).lastCommand = s.lastCommand := rfl
@[simp] theorem countCollision_lastResult : (s.countCollision).lastResult = s.lastResult := rfl
@[simp] theorem countCollision_restartPending : (s.countCollision).restartPending = s.restartPending := rfl
@[simp] theorem countCollision_lineLow : (s.countCollision).lineLow = s.lineLow := rfl
@[simp] theorem countCollision_key : (s.countCollision).key = s.key := rfl
@[simp] theorem countCollision_supply : (s.countCollision).supply = s.supply := rfl
@[simp] theorem countCollision_pending : (s.countCollision).pending = s.pending := rfl

/-! ### countSendFailure -/

@[simp] theorem countSendFailure_station : (s.countSendFailure).station = s.station := rfl
@[simp] theorem countSendFailure_number : (s.countSendFailure).number = s.number := rfl
@[simp] theorem countSendFailure_neighbours : (s.countSendFailure).neighbours = s.neighbours := rfl
@[simp] theorem countSendFailure_eventThreshold : (s.countSendFailure).eventThreshold = s.eventThreshold := rfl
@[simp] theorem countSendFailure_settleBand : (s.countSendFailure).settleBand = s.settleBand := rfl
@[simp] theorem countSendFailure_motionLimit : (s.countSendFailure).motionLimit = s.motionLimit := rfl
@[simp] theorem countSendFailure_strayWindow : (s.countSendFailure).strayWindow = s.strayWindow := rfl
@[simp] theorem countSendFailure_imageClamped : (s.countSendFailure).imageClamped = s.imageClamped := rfl
@[simp] theorem countSendFailure_hashTable : (s.countSendFailure).hashTable = s.hashTable := rfl
@[simp] theorem countSendFailure_loadFault : (s.countSendFailure).loadFault = s.loadFault := rfl
@[simp] theorem countSendFailure_loader : (s.countSendFailure).loader = s.loader := rfl
@[simp] theorem countSendFailure_eeprom : (s.countSendFailure).eeprom = s.eeprom := rfl
@[simp] theorem countSendFailure_clock : (s.countSendFailure).clock = s.clock := rfl
@[simp] theorem countSendFailure_tallyAt : (s.countSendFailure).tallyAt = s.tallyAt := rfl
@[simp] theorem countSendFailure_faultAt : (s.countSendFailure).faultAt = s.faultAt := rfl
@[simp] theorem countSendFailure_rotation : (s.countSendFailure).rotation = s.rotation := rfl
@[simp] theorem countSendFailure_cells : (s.countSendFailure).cells = s.cells := rfl
@[simp] theorem countSendFailure_departureSerial : (s.countSendFailure).departureSerial = s.departureSerial := rfl
@[simp] theorem countSendFailure_log : (s.countSendFailure).log = s.log := rfl
@[simp] theorem countSendFailure_lines : (s.countSendFailure).lines = s.lines := rfl
@[simp] theorem countSendFailure_census : (s.countSendFailure).census = s.census := rfl
@[simp] theorem countSendFailure_access : (s.countSendFailure).access = s.access := rfl
@[simp] theorem countSendFailure_queue : (s.countSendFailure).queue = s.queue := rfl
@[simp] theorem countSendFailure_nextAge : (s.countSendFailure).nextAge = s.nextAge := rfl
@[simp] theorem countSendFailure_lastCommand : (s.countSendFailure).lastCommand = s.lastCommand := rfl
@[simp] theorem countSendFailure_lastResult : (s.countSendFailure).lastResult = s.lastResult := rfl
@[simp] theorem countSendFailure_restartPending : (s.countSendFailure).restartPending = s.restartPending := rfl
@[simp] theorem countSendFailure_lineLow : (s.countSendFailure).lineLow = s.lineLow := rfl
@[simp] theorem countSendFailure_key : (s.countSendFailure).key = s.key := rfl
@[simp] theorem countSendFailure_supply : (s.countSendFailure).supply = s.supply := rfl
@[simp] theorem countSendFailure_pending : (s.countSendFailure).pending = s.pending := rfl

/-! ### countSendDrop -/

@[simp] theorem countSendDrop_station : (s.countSendDrop).station = s.station := rfl
@[simp] theorem countSendDrop_number : (s.countSendDrop).number = s.number := rfl
@[simp] theorem countSendDrop_neighbours : (s.countSendDrop).neighbours = s.neighbours := rfl
@[simp] theorem countSendDrop_eventThreshold : (s.countSendDrop).eventThreshold = s.eventThreshold := rfl
@[simp] theorem countSendDrop_settleBand : (s.countSendDrop).settleBand = s.settleBand := rfl
@[simp] theorem countSendDrop_motionLimit : (s.countSendDrop).motionLimit = s.motionLimit := rfl
@[simp] theorem countSendDrop_strayWindow : (s.countSendDrop).strayWindow = s.strayWindow := rfl
@[simp] theorem countSendDrop_imageClamped : (s.countSendDrop).imageClamped = s.imageClamped := rfl
@[simp] theorem countSendDrop_hashTable : (s.countSendDrop).hashTable = s.hashTable := rfl
@[simp] theorem countSendDrop_loadFault : (s.countSendDrop).loadFault = s.loadFault := rfl
@[simp] theorem countSendDrop_loader : (s.countSendDrop).loader = s.loader := rfl
@[simp] theorem countSendDrop_eeprom : (s.countSendDrop).eeprom = s.eeprom := rfl
@[simp] theorem countSendDrop_clock : (s.countSendDrop).clock = s.clock := rfl
@[simp] theorem countSendDrop_tallyAt : (s.countSendDrop).tallyAt = s.tallyAt := rfl
@[simp] theorem countSendDrop_faultAt : (s.countSendDrop).faultAt = s.faultAt := rfl
@[simp] theorem countSendDrop_rotation : (s.countSendDrop).rotation = s.rotation := rfl
@[simp] theorem countSendDrop_cells : (s.countSendDrop).cells = s.cells := rfl
@[simp] theorem countSendDrop_departureSerial : (s.countSendDrop).departureSerial = s.departureSerial := rfl
@[simp] theorem countSendDrop_log : (s.countSendDrop).log = s.log := rfl
@[simp] theorem countSendDrop_lines : (s.countSendDrop).lines = s.lines := rfl
@[simp] theorem countSendDrop_census : (s.countSendDrop).census = s.census := rfl
@[simp] theorem countSendDrop_access : (s.countSendDrop).access = s.access := rfl
@[simp] theorem countSendDrop_queue : (s.countSendDrop).queue = s.queue := rfl
@[simp] theorem countSendDrop_nextAge : (s.countSendDrop).nextAge = s.nextAge := rfl
@[simp] theorem countSendDrop_lastCommand : (s.countSendDrop).lastCommand = s.lastCommand := rfl
@[simp] theorem countSendDrop_lastResult : (s.countSendDrop).lastResult = s.lastResult := rfl
@[simp] theorem countSendDrop_restartPending : (s.countSendDrop).restartPending = s.restartPending := rfl
@[simp] theorem countSendDrop_lineLow : (s.countSendDrop).lineLow = s.lineLow := rfl
@[simp] theorem countSendDrop_key : (s.countSendDrop).key = s.key := rfl
@[simp] theorem countSendDrop_supply : (s.countSendDrop).supply = s.supply := rfl
@[simp] theorem countSendDrop_pending : (s.countSendDrop).pending = s.pending := rfl

/-! ### settleKey -/

@[simp] theorem settleKey_station : (s.settleKey).station = s.station := rfl
@[simp] theorem settleKey_number : (s.settleKey).number = s.number := rfl
@[simp] theorem settleKey_neighbours : (s.settleKey).neighbours = s.neighbours := rfl
@[simp] theorem settleKey_eventThreshold : (s.settleKey).eventThreshold = s.eventThreshold := rfl
@[simp] theorem settleKey_settleBand : (s.settleKey).settleBand = s.settleBand := rfl
@[simp] theorem settleKey_motionLimit : (s.settleKey).motionLimit = s.motionLimit := rfl
@[simp] theorem settleKey_strayWindow : (s.settleKey).strayWindow = s.strayWindow := rfl
@[simp] theorem settleKey_imageClamped : (s.settleKey).imageClamped = s.imageClamped := rfl
@[simp] theorem settleKey_hashTable : (s.settleKey).hashTable = s.hashTable := rfl
@[simp] theorem settleKey_loadFault : (s.settleKey).loadFault = s.loadFault := rfl
@[simp] theorem settleKey_loader : (s.settleKey).loader = s.loader := rfl
@[simp] theorem settleKey_eeprom : (s.settleKey).eeprom = s.eeprom := rfl
@[simp] theorem settleKey_tallyAt : (s.settleKey).tallyAt = s.tallyAt := rfl
@[simp] theorem settleKey_faultAt : (s.settleKey).faultAt = s.faultAt := rfl
@[simp] theorem settleKey_rotation : (s.settleKey).rotation = s.rotation := rfl
@[simp] theorem settleKey_cells : (s.settleKey).cells = s.cells := rfl
@[simp] theorem settleKey_departureSerial : (s.settleKey).departureSerial = s.departureSerial := rfl
@[simp] theorem settleKey_log : (s.settleKey).log = s.log := rfl
@[simp] theorem settleKey_lines : (s.settleKey).lines = s.lines := rfl
@[simp] theorem settleKey_census : (s.settleKey).census = s.census := rfl
@[simp] theorem settleKey_lineLow : (s.settleKey).lineLow = s.lineLow := rfl
@[simp] theorem settleKey_access : (s.settleKey).access = s.access := rfl
@[simp] theorem settleKey_counters : (s.settleKey).counters = s.counters := rfl
@[simp] theorem settleKey_queue : (s.settleKey).queue = s.queue := rfl
@[simp] theorem settleKey_nextAge : (s.settleKey).nextAge = s.nextAge := rfl
@[simp] theorem settleKey_lastCommand : (s.settleKey).lastCommand = s.lastCommand := rfl
@[simp] theorem settleKey_lastResult : (s.settleKey).lastResult = s.lastResult := rfl
@[simp] theorem settleKey_restartPending : (s.settleKey).restartPending = s.restartPending := rfl
@[simp] theorem settleKey_supply : (s.settleKey).supply = s.supply := rfl
@[simp] theorem settleKey_pending : (s.settleKey).pending = s.pending := rfl
@[simp] theorem settleKey_clock : s.settleKey.clock = max s.clock (s.key.readFrom + Config.keySettle) := rfl
@[simp] theorem settleKey_key : s.settleKey.key = { s.key with readFrom := s.settleKey.clock } := rfl

/-! ### atLastStop -/

@[simp] theorem atLastStop_station (f : Frame) : (s.atLastStop f).station = s.station := rfl
@[simp] theorem atLastStop_number (f : Frame) : (s.atLastStop f).number = s.number := rfl
@[simp] theorem atLastStop_neighbours (f : Frame) : (s.atLastStop f).neighbours = s.neighbours := rfl
@[simp] theorem atLastStop_eventThreshold (f : Frame) : (s.atLastStop f).eventThreshold = s.eventThreshold := rfl
@[simp] theorem atLastStop_settleBand (f : Frame) : (s.atLastStop f).settleBand = s.settleBand := rfl
@[simp] theorem atLastStop_motionLimit (f : Frame) : (s.atLastStop f).motionLimit = s.motionLimit := rfl
@[simp] theorem atLastStop_strayWindow (f : Frame) : (s.atLastStop f).strayWindow = s.strayWindow := rfl
@[simp] theorem atLastStop_imageClamped (f : Frame) : (s.atLastStop f).imageClamped = s.imageClamped := rfl
@[simp] theorem atLastStop_hashTable (f : Frame) : (s.atLastStop f).hashTable = s.hashTable := rfl
@[simp] theorem atLastStop_loadFault (f : Frame) : (s.atLastStop f).loadFault = s.loadFault := rfl
@[simp] theorem atLastStop_loader (f : Frame) : (s.atLastStop f).loader = s.loader := rfl
@[simp] theorem atLastStop_eeprom (f : Frame) : (s.atLastStop f).eeprom = s.eeprom := rfl
@[simp] theorem atLastStop_clock (f : Frame) : (s.atLastStop f).clock = s.clock := rfl
@[simp] theorem atLastStop_tallyAt (f : Frame) : (s.atLastStop f).tallyAt = s.tallyAt := rfl
@[simp] theorem atLastStop_faultAt (f : Frame) : (s.atLastStop f).faultAt = s.faultAt := rfl
@[simp] theorem atLastStop_rotation (f : Frame) : (s.atLastStop f).rotation = s.rotation := rfl
@[simp] theorem atLastStop_cells (f : Frame) : (s.atLastStop f).cells = s.cells := rfl
@[simp] theorem atLastStop_departureSerial (f : Frame) : (s.atLastStop f).departureSerial = s.departureSerial := rfl
@[simp] theorem atLastStop_log (f : Frame) : (s.atLastStop f).log = s.log := rfl
@[simp] theorem atLastStop_lines (f : Frame) : (s.atLastStop f).lines = s.lines := rfl
@[simp] theorem atLastStop_census (f : Frame) : (s.atLastStop f).census = s.census := rfl
@[simp] theorem atLastStop_counters (f : Frame) : (s.atLastStop f).counters = s.counters := rfl
@[simp] theorem atLastStop_queue (f : Frame) : (s.atLastStop f).queue = s.queue := rfl
@[simp] theorem atLastStop_nextAge (f : Frame) : (s.atLastStop f).nextAge = s.nextAge := rfl
@[simp] theorem atLastStop_lastCommand (f : Frame) : (s.atLastStop f).lastCommand = s.lastCommand := rfl
@[simp] theorem atLastStop_lastResult (f : Frame) : (s.atLastStop f).lastResult = s.lastResult := rfl
@[simp] theorem atLastStop_restartPending (f : Frame) : (s.atLastStop f).restartPending = s.restartPending := rfl
@[simp] theorem atLastStop_key (f : Frame) : (s.atLastStop f).key = s.key := rfl
@[simp] theorem atLastStop_supply (f : Frame) : (s.atLastStop f).supply = s.supply := rfl
@[simp] theorem atLastStop_pending (f : Frame) : (s.atLastStop f).pending = s.pending := rfl
@[simp] theorem atLastStop_lineLow (f : Frame) : (s.atLastStop f).lineLow = 0 := rfl
@[simp] theorem atLastStop_access (f : Frame) : (s.atLastStop f).access = { s.access with quiet := onesAtEnd f } := rfl

end Sys2Proof.Machine
end

