-- ==== Sys2Proof/Laws/Clock.lean ====
section
/-! SUPPORT. What the station does on its own where no command waits: what a tick can answer, and when nothing has come due;
and the stretches of the lamp clock. -/

namespace Sys2Proof.Machine

variable (s : State)

@[simp] theorem mem_dueIf (b : Bool) (i j : Instr) : i ∈ dueIf b j ↔ b = true ∧ i = j := by cases b <;> simp [dueIf]

/-- A timer has run its length where it was started and the clock stands that far behind its start. -/
theorem ranFor_eq_true (since : Option Nat) (length : Nat) :
    s.ranFor since length = true ↔ ∃ t, since = some t ∧ t + length ≤ s.clock := by
  cases since <;> simp [State.ranFor]

/-- A tick is one bit time, or the commands whose moment has come. -/
theorem tick_cases : (s.due = [] ∧ s.tick = s.passBitTime) ∨ (s.due ≠ [] ∧ s.tick = { s with pending := s.due }) := by
  unfold State.tick
  split
  · exact .inl ⟨‹_›, rfl⟩
  · exact .inr ⟨‹_›, rfl⟩

/-- A stretch of Table 9-1 holds the positions from its first millisecond to its last, both ends included. -/
theorem inStretch_eq_true (position first last : Nat) :
    inStretch position first last = true ↔ first * 100 ≤ position ∧ position ≤ last * 100 := by
  rw [inStretch, Bool.and_eq_true, decide_eq_true_eq, decide_eq_true_eq]
  rfl

/-- Nothing comes due while the station clock stands still. -/
theorem due_of_stopped (h : s.clockRuns = false) : s.due = [] := by
  simp only [State.clockRuns, Bool.or_eq_false_iff] at h
  have hu : (s.station == .unconfigured) = false := by
    simp only [State.lineOn, Bool.or_eq_false_iff] at h
    exact h.1.2
  simp [State.due, dueIf, h.1, h.2, hu]

@[simp] theorem tick_station : s.tick.station = s.station := by
  obtain ⟨-, h⟩ | ⟨-, h⟩ := tick_cases s <;> rw [h]
  rfl

@[simp] theorem tick_queue : s.tick.queue = s.queue := by
  obtain ⟨-, h⟩ | ⟨-, h⟩ := tick_cases s <;> rw [h]
  rfl

@[simp] theorem tick_lines : s.tick.lines = s.lines := by
  obtain ⟨-, h⟩ | ⟨-, h⟩ := tick_cases s <;> rw [h]
  rfl

@[simp] theorem tick_cells : s.tick.cells = s.cells := by
  obtain ⟨-, h⟩ | ⟨-, h⟩ := tick_cases s <;> rw [h]
  rfl

end Sys2Proof.Machine
end

