-- ==== Sys2Proof/Laws/Memory.lean ====
section
/-! SUPPORT. The configuration memory: every row of bytes gives the canonical form, and it reads back the bytes. -/

namespace Sys2Proof.Machine

/-- A memory whose first address is higher rises from a lower one as well. -/
theorem Memory.rising_mono {a b : Nat} (h : a ≤ b) : ∀ m : Memory, Memory.rising b m = true → Memory.rising a m = true
  | [], _ => rfl
  | (k, v) :: rest, hr => by
    simp only [Memory.rising, Bool.and_eq_true, decide_eq_true_eq] at hr ⊢
    exact ⟨⟨by omega, hr.1.2⟩, hr.2⟩

/-- Bytes placed from an address on rise from it. -/
theorem Memory.placed_rising : ∀ (bytes : List Byte) (a : Nat), Memory.rising a (Memory.placed a bytes) = true
  | [], _ => rfl
  | b :: rest, a => by
    have ih := Memory.placed_rising rest (a + 1)
    by_cases hb : b = Config.erased
    · simpa [Memory.placed, hb] using Memory.rising_mono (Nat.le_succ a) _ ih
    · simp [Memory.placed, hb, Memory.rising, ih]

/-- Bytes placed from an address on lie below the address that follows them. -/
theorem Memory.placed_below : ∀ (bytes : List Byte) (a : Nat), ∀ c ∈ Memory.placed a bytes, c.1 < a + bytes.length
  | [], _, _, h => by simp [Memory.placed] at h
  | b :: rest, a, c, h => by
    have ih := Memory.placed_below rest (a + 1) c
    simp only [List.length_cons]
    by_cases hb : b = Config.erased
    · have := ih (by simpa [Memory.placed, hb] using h)
      omega
    · simp only [Memory.placed, hb, if_false, List.mem_cons] at h
      rcases h with rfl | h
      · simp
      · have := ih h
        omega

/-- The memory of a load is in canonical form (10.2). -/
theorem Memory.ofBytes_wf (bytes : List Byte) : Memory.wf (Memory.ofBytes bytes) = true := by
  simp only [Memory.wf, Bool.and_eq_true, List.all_eq_true, decide_eq_true_eq]
  refine ⟨Memory.placed_rising _ _, fun c hc => ?_⟩
  have := Memory.placed_below _ _ c hc
  simp only [List.length_take] at this
  omega

/-- Bytes placed from an address on read back, and every other address reads erased. -/
theorem Memory.read_placed : ∀ (bytes : List Byte) (a k : Nat),
    Memory.read (Memory.placed a bytes) k = if a ≤ k then (bytes[k - a]?).getD Config.erased else Config.erased
  | [], _, _ => by simp [Memory.placed, Memory.read]
  | b :: rest, a, k => by
    have ih := Memory.read_placed rest (a + 1) k
    have tail : (if a + 1 ≤ k then (rest[k - (a + 1)]?).getD Config.erased else Config.erased) =
        if a = k then Config.erased else if a ≤ k then ((b :: rest)[k - a]?).getD Config.erased else Config.erased := by
      rcases Nat.lt_trichotomy a k with h | h | h
      · have e : k - a = (k - (a + 1)) + 1 := by omega
        rw [if_pos (by omega), if_neg (by omega), if_pos (by omega), e, List.getElem?_cons_succ]
      · subst h
        rw [if_neg (by omega), if_pos rfl]
      · rw [if_neg (by omega), if_neg (by omega), if_neg (by omega)]
    by_cases hb : b = Config.erased
    · rw [Memory.placed, if_pos hb, ih, tail]
      by_cases hk : a = k
      · subst hk
        simp [hb]
      · rw [if_neg hk]
    · rw [Memory.placed, if_neg hb, Memory.read, ih, tail]
      by_cases hk : a = k
      · subst hk
        simp
      · rw [if_neg hk, if_neg hk]

/-- The memory of a load holds its first 512 bytes and is erased beyond them (10.2). -/
theorem Memory.read_ofBytes (bytes : List Byte) (a : Nat) :
    Memory.read (Memory.ofBytes bytes) a = if a < Config.memorySize then (bytes[a]?).getD Config.erased else Config.erased := by
  rw [Memory.ofBytes, Memory.read_placed]
  simp only [Nat.zero_le, if_true, Nat.sub_zero, List.getElem?_take]
  split <;> simp

end Sys2Proof.Machine
end

