-- ==== Sys2Proof/Laws/Ops.lean ====
section
/-! SUPPORT. What each shared operation can do, said once: cell and line updates, the departure log, and everything that asks for a
frame. -/

namespace Sys2Proof.Machine

/-! ### Cells and lines -/

theorem cell_setCell (s : State) (i j : Fin 12) (c : CellRecord) : (s.setCell i c).cell j = if i = j then c else s.cell j := by
  simp only [State.cell, State.setCell, Fin.getElem_fin, Vector.getElem_set, Fin.ext_iff]

@[simp] theorem cell_setCell_same (s : State) (i : Fin 12) (c : CellRecord) : (s.setCell i c).cell i = c := by simp [cell_setCell]

theorem cell_setCell_ne (s : State) {i j : Fin 12} (c : CellRecord) (h : i ≠ j) : (s.setCell i c).cell j = s.cell j := by
  simp [cell_setCell, h]

theorem line_setLine (s : State) (l k : Fin 12) (a : ArticleLine) : (s.setLine l a).line k = if l = k then a else s.line k := by
  simp only [State.line, State.setLine, Fin.getElem_fin, Vector.getElem_set, Fin.ext_iff]

@[simp] theorem line_setLine_same (s : State) (l : Fin 12) (a : ArticleLine) : (s.setLine l a).line l = a := by simp [line_setLine]

theorem line_setLine_ne (s : State) {l k : Fin 12} (a : ArticleLine) (h : l ≠ k) : (s.setLine l a).line k = s.line k := by
  simp [line_setLine, h]

@[simp] theorem setCell_setCell (s : State) (i : Fin 12) (c d : CellRecord) : (s.setCell i c).setCell i d = s.setCell i d := by
  simp [State.setCell]

@[simp] theorem setLine_setLine (s : State) (l : Fin 12) (a b : ArticleLine) : (s.setLine l a).setLine l b = s.setLine l b := by
  simp [State.setLine]

@[simp] theorem setCell_cell (s : State) (i : Fin 12) : s.setCell i (s.cell i) = s := by simp [State.setCell, State.cell]

@[simp] theorem setLine_line (s : State) (l : Fin 12) : s.setLine l (s.line l) = s := by simp [State.setLine, State.line]

@[simp] theorem line_setCell (s : State) (i l : Fin 12) (c : CellRecord) : (s.setCell i c).line l = s.line l := rfl

@[simp] theorem cell_setLine (s : State) (i l : Fin 12) (a : ArticleLine) : (s.setLine l a).cell i = s.cell i := rfl

/-- Two states with the same cell vector agree on every cell. -/
theorem cell_congr {s t : State} (h : t.cells = s.cells) (i : Fin 12) : t.cell i = s.cell i := by simp only [State.cell, h]

/-- Two states with the same line vector agree on every line. -/
theorem line_congr {s t : State} (h : t.lines = s.lines) (l : Fin 12) : t.line l = s.line l := by simp only [State.line, h]

/-- A vector of twelve is given by its twelve entries. -/
theorem lines_ext {s t : State} (h : ∀ l, t.line l = s.line l) : t.lines = s.lines := by
  apply Vector.ext
  intro k hk
  exact h ⟨k, hk⟩

/-- The same for the cells. -/
theorem cells_ext {s t : State} (h : ∀ i, t.cell i = s.cell i) : t.cells = s.cells := by
  apply Vector.ext
  intro k hk
  exact h ⟨k, hk⟩

/-- Taking a count changes one cell's count and every line's own count, and nothing else of either. -/
theorem cell_setCount (s : State) (i j : Fin 12) (n : Nat) :
    (s.setCount i n).cell j = if i = j then { s.cell i with count := n } else s.cell j := by
  simp only [State.cell, State.setCount, Fin.getElem_fin, Vector.getElem_set, Fin.ext_iff]

@[simp] theorem line_setCount (s : State) (i l : Fin 12) (n : Nat) :
    (s.setCount i n).line l =
      { s.line l with ownCount := countSum (s.setCount i n).cells (s.line l).config.cells } := by
  simp [State.line, State.setCount]

@[simp] theorem cell_setCount_same (s : State) (i : Fin 12) (n : Nat) :
    (s.setCount i n).cell i = { s.cell i with count := n } := by simp [cell_setCount]

/-! ### The departure log -/

/-- A joining entry is the youngest; the log keeps the 15 youngest of what it held before, in order (R43, R48). -/
theorem logJoin_log (s : State) (e : Departure) :
    (s.logJoin e).log = s.log.drop (s.log.length + 1 - 16) ++ [e] := by simp only [State.logJoin, Config.logMax]

/-- A log of at most 16 entries stays so. -/
theorem logJoin_length (s : State) (e : Departure) (h : s.log.length ≤ 16) : (s.logJoin e).log.length ≤ 16 := by
  rw [logJoin_log]; simp; omega

/-- A unit is taken from the first entry of the list that satisfies the test. -/
theorem takeUnit_first (p : Departure → Bool) (before after : List Departure) (d : Departure)
    (hb : ∀ e ∈ before, p e = false) (hd : p d = true) :
    takeUnit p (before ++ d :: after) =
      before ++ (if d.units ≤ 1 then [] else [{ d with units := d.units - 1 }]) ++ after := by
  induction before with
  | nil => by_cases h : d.units ≤ 1 <;> simp [takeUnit, hd, h]
  | cons e rest ih =>
    have he : p e = false := hb e (by simp)
    simp only [List.cons_append, takeUnit, he]
    simp [ih (fun x hx => hb x (by simp [hx]))]

/-- A list with no entry that satisfies the test is left alone. -/
theorem takeUnit_none (p : Departure → Bool) (list : List Departure) (h : ∀ e ∈ list, p e = false) : takeUnit p list = list := by
  induction list with
  | nil => rfl
  | cons e rest ih => simp [takeUnit, h e (by simp), ih (fun x hx => h x (by simp [hx]))]

/-! ### Asking for frames -/

/-- The station is not sending where every frame of its queue waits (R131). -/
theorem isSending_eq_false (s : State) : s.isSending = false ↔ ∀ f ∈ s.queue, f.phase = .waiting := by
  have h : ∀ f : SendFrame, f.isWaiting = true ↔ f.phase = .waiting := by
    intro f
    cases hf : f.phase <;> simp [SendFrame.isWaiting, hf]
  simp [State.isSending, h]

@[simp] theorem mem_allTwelve (i : Fin 12) : i ∈ allTwelve := by decide +revert

/-- What asking for, withdrawing or losing a frame can change: the queue, the next age, the line counters, and of a line nothing but
its claim timer. -/
structure SendSide (s t : State) : Prop where
  rest : t = { s with queue := t.queue, nextAge := t.nextAge, counters := t.counters, lines := t.lines }
  lines : ∀ l, t.line l = { s.line l with claimSince := (t.line l).claimSince }

theorem SendSide.refl (s : State) : SendSide s s := ⟨rfl, fun _ => rfl⟩

theorem SendSide.trans {s t u : State} (h : SendSide s t) (k : SendSide t u) : SendSide s u := by
  refine ⟨?_, fun l => ?_⟩
  · rw [k.rest, h.rest]
  · rw [k.lines l, h.lines l]

theorem SendSide.of_lines_eq {s t : State}
    (h : t = { s with queue := t.queue, nextAge := t.nextAge, counters := t.counters }) : SendSide s t := by
  have hl : t.lines = s.lines := by rw [h]
  refine ⟨?_, fun l => ?_⟩
  · rw [hl]; exact h
  · rw [line_congr hl l]

theorem enqueue_sendSide (s : State) (c : Content) : SendSide s (s.enqueue c) := .of_lines_eq rfl
theorem leaveQueue_sendSide (s : State) (age : Nat) : SendSide s (s.leaveQueue age) := .of_lines_eq rfl
theorem withdraw_sendSide (s : State) (p : Content → Bool) : SendSide s (s.withdraw p) := .of_lines_eq rfl
theorem replaceFrame_sendSide (s : State) (f : SendFrame) : SendSide s (s.replaceFrame f) := .of_lines_eq rfl
theorem countSendDrop_sendSide (s : State) : SendSide s s.countSendDrop := .of_lines_eq rfl
theorem countSendFailure_sendSide (s : State) : SendSide s s.countSendFailure := .of_lines_eq rfl
theorem countCollision_sendSide (s : State) : SendSide s s.countCollision := .of_lines_eq rfl

theorem startClaim_sendSide (s : State) (l : Fin 12) : SendSide s (s.startClaim l) := by
  refine ⟨rfl, fun k => ?_⟩
  by_cases h : l = k
  · subst h; simp [State.startClaim]
  · simp [State.startClaim, line_setLine_ne _ _ h]

theorem countLost_sendSide (s : State) (code : Code) : SendSide s (s.countLost code) := by
  unfold State.countLost
  split
  · exact .refl s
  · split
    · exact startClaim_sendSide _ _
    · exact .refl s

theorem tellLost_sendSide (s : State) (c : Content) : SendSide s (s.tellLost c) := by
  cases c <;> first | exact countLost_sendSide _ _ | exact .refl s

theorem joinQueue_sendSide (s : State) (c : Content) : SendSide s (s.joinQueue c) := by
  unfold State.joinQueue
  split
  · exact enqueue_sendSide s c
  · split
    · exact (((leaveQueue_sendSide s _).trans (enqueue_sendSide _ c)).trans (countSendDrop_sendSide _)).trans (tellLost_sendSide _ _)
    · exact (countSendDrop_sendSide s).trans (tellLost_sendSide _ _)

/-- What a request can do. -/
theorem request_sendSide (s : State) (c : Content) : SendSide s (s.request c) := by
  unfold State.request
  split
  · exact .of_lines_eq rfl
  · exact joinQueue_sendSide s c

theorem requestCount_sendSide (s : State) (l : Fin 12) (claim : Bool) (part : Option DeparturePart) :
    SendSide s (s.requestCount l claim part) := request_sendSide s _

theorem requestAlert_sendSide (s : State) (l : Fin 12) (raised : Bool) (urgency : Nat) :
    SendSide s (s.requestAlert l raised urgency) := request_sendSide s _

theorem requestTally_sendSide (s : State) : SendSide s s.requestTally := by
  unfold State.requestTally
  split
  · exact .refl s
  · exact request_sendSide s _

theorem requestCountOfCell_sendSide (s : State) (i : Fin 12) (part : Option DeparturePart) :
    SendSide s (s.requestCountOfCell i part) := by
  unfold State.requestCountOfCell
  split
  · split
    · exact requestCount_sendSide _ _ _ _
    · exact .refl s
  · exact .refl s

/-- What an evaluation can do: it changes no record (R88). -/
theorem evaluate_sendSide (s : State) (l : Fin 12) : SendSide s (s.evaluate l) := by
  unfold State.evaluate
  split
  · split
    · exact .refl s
    · exact requestAlert_sendSide _ _ _ _
  · exact .refl s

theorem minuteEvaluations_sendSide (s : State) : SendSide s s.minuteEvaluations := by
  have h : ∀ (ls : List (Fin 12)) (t : State), SendSide t (ls.foldl State.evaluate t) := by
    intro ls
    induction ls with
    | nil => exact fun t => .refl t
    | cons l rest ih => exact fun t => (evaluate_sendSide t l).trans (ih _)
  exact h _ s

theorem returnToWaiting_sendSide (s : State) (f : SendFrame) : SendSide s (s.returnToWaiting f) := by
  unfold State.returnToWaiting
  cases s.queue.find? (fun g => g.isWaiting && sameKind g.content f.content) with
  | none => exact replaceFrame_sendSide _ _
  | some g => exact (leaveQueue_sendSide s g.age).trans (replaceFrame_sendSide _ _)

/-- What a failed attempt can do. -/
theorem failAttempt_sendSide (s : State) (f : SendFrame) : SendSide s (s.failAttempt f) := by
  unfold State.failAttempt
  dsimp only
  split
  · exact ((leaveQueue_sendSide s _).trans (countSendFailure_sendSide _)).trans (tellLost_sendSide _ _)
  · exact returnToWaiting_sendSide _ _

theorem requestCommand_sendSide (s : State) (command : CommandCode) (codes : List Code) :
    SendSide s (s.requestCommand command codes) := by
  unfold State.requestCommand
  split
  · exact .refl s
  · exact request_sendSide s _

/-! ### The end of an event -/

/-- An event ends with the state as it is, with the census window opened at this moment, or with a full start (R144, R164). -/
theorem finish_cases (s : State) :
    s.finish = s ∨ s.finish = { s with census := .window s.clock } ∨ s.finish = s.fullStart ∨
      s.finish = { s with census := .window s.clock }.fullStart := by
  unfold State.finish State.openCensusWindow
  dsimp only
  split <;> split <;> simp

end Sys2Proof.Machine
end

