-- ==== Sys2Proof/Laws/Requests.lean ====
section
/-! SUPPORT. The fields that asking for a frame leaves alone, one lemma for each, from what a request can do (Laws/Ops.lean). -/

namespace Sys2Proof.Machine

variable (s : State)

theorem SendSide.station {s t : State} (h : SendSide s t) : t.station = s.station := by rw [h.rest]
theorem SendSide.number {s t : State} (h : SendSide s t) : t.number = s.number := by rw [h.rest]
theorem SendSide.neighbours {s t : State} (h : SendSide s t) : t.neighbours = s.neighbours := by rw [h.rest]
theorem SendSide.eventThreshold {s t : State} (h : SendSide s t) : t.eventThreshold = s.eventThreshold := by rw [h.rest]
theorem SendSide.settleBand {s t : State} (h : SendSide s t) : t.settleBand = s.settleBand := by rw [h.rest]
theorem SendSide.motionLimit {s t : State} (h : SendSide s t) : t.motionLimit = s.motionLimit := by rw [h.rest]
theorem SendSide.strayWindow {s t : State} (h : SendSide s t) : t.strayWindow = s.strayWindow := by rw [h.rest]
theorem SendSide.imageClamped {s t : State} (h : SendSide s t) : t.imageClamped = s.imageClamped := by rw [h.rest]
theorem SendSide.hashTable {s t : State} (h : SendSide s t) : t.hashTable = s.hashTable := by rw [h.rest]
theorem SendSide.loadFault {s t : State} (h : SendSide s t) : t.loadFault = s.loadFault := by rw [h.rest]
theorem SendSide.loader {s t : State} (h : SendSide s t) : t.loader = s.loader := by rw [h.rest]
theorem SendSide.eeprom {s t : State} (h : SendSide s t) : t.eeprom = s.eeprom := by rw [h.rest]
theorem SendSide.clock {s t : State} (h : SendSide s t) : t.clock = s.clock := by rw [h.rest]
theorem SendSide.tallyAt {s t : State} (h : SendSide s t) : t.tallyAt = s.tallyAt := by rw [h.rest]
theorem SendSide.faultAt {s t : State} (h : SendSide s t) : t.faultAt = s.faultAt := by rw [h.rest]
theorem SendSide.rotation {s t : State} (h : SendSide s t) : t.rotation = s.rotation := by rw [h.rest]
theorem SendSide.cells {s t : State} (h : SendSide s t) : t.cells = s.cells := by rw [h.rest]
theorem SendSide.departureSerial {s t : State} (h : SendSide s t) : t.departureSerial = s.departureSerial := by rw [h.rest]
theorem SendSide.log {s t : State} (h : SendSide s t) : t.log = s.log := by rw [h.rest]
theorem SendSide.census {s t : State} (h : SendSide s t) : t.census = s.census := by rw [h.rest]
theorem SendSide.access {s t : State} (h : SendSide s t) : t.access = s.access := by rw [h.rest]
theorem SendSide.lastCommand {s t : State} (h : SendSide s t) : t.lastCommand = s.lastCommand := by rw [h.rest]
theorem SendSide.lastResult {s t : State} (h : SendSide s t) : t.lastResult = s.lastResult := by rw [h.rest]
theorem SendSide.restartPending {s t : State} (h : SendSide s t) : t.restartPending = s.restartPending := by rw [h.rest]
theorem SendSide.lineLow {s t : State} (h : SendSide s t) : t.lineLow = s.lineLow := by rw [h.rest]
theorem SendSide.key {s t : State} (h : SendSide s t) : t.key = s.key := by rw [h.rest]
theorem SendSide.supply {s t : State} (h : SendSide s t) : t.supply = s.supply := by rw [h.rest]
theorem SendSide.pending {s t : State} (h : SendSide s t) : t.pending = s.pending := by rw [h.rest]

/-- The cells of two such states agree one by one. -/
theorem SendSide.cell {s t : State} (h : SendSide s t) (i : Fin 12) : t.cell i = s.cell i := cell_congr h.cells i

/-! ### request -/

@[simp] theorem request_station (c : Content) : (s.request c).station = s.station := (request_sendSide s c).station
@[simp] theorem request_number (c : Content) : (s.request c).number = s.number := (request_sendSide s c).number
@[simp] theorem request_neighbours (c : Content) : (s.request c).neighbours = s.neighbours := (request_sendSide s c).neighbours
@[simp] theorem request_eventThreshold (c : Content) : (s.request c).eventThreshold = s.eventThreshold := (request_sendSide s c).eventThreshold
@[simp] theorem request_settleBand (c : Content) : (s.request c).settleBand = s.settleBand := (request_sendSide s c).settleBand
@[simp] theorem request_motionLimit (c : Content) : (s.request c).motionLimit = s.motionLimit := (request_sendSide s c).motionLimit
@[simp] theorem request_strayWindow (c : Content) : (s.request c).strayWindow = s.strayWindow := (request_sendSide s c).strayWindow
@[simp] theorem request_imageClamped (c : Content) : (s.request c).imageClamped = s.imageClamped := (request_sendSide s c).imageClamped
@[simp] theorem request_hashTable (c : Content) : (s.request c).hashTable = s.hashTable := (request_sendSide s c).hashTable
@[simp] theorem request_loadFault (c : Content) : (s.request c).loadFault = s.loadFault := (request_sendSide s c).loadFault
@[simp] theorem request_loader (c : Content) : (s.request c).loader = s.loader := (request_sendSide s c).loader
@[simp] theorem request_eeprom (c : Content) : (s.request c).eeprom = s.eeprom := (request_sendSide s c).eeprom
@[simp] theorem request_clock (c : Content) : (s.request c).clock = s.clock := (request_sendSide s c).clock
@[simp] theorem request_tallyAt (c : Content) : (s.request c).tallyAt = s.tallyAt := (request_sendSide s c).tallyAt
@[simp] theorem request_faultAt (c : Content) : (s.request c).faultAt = s.faultAt := (request_sendSide s c).faultAt
@[simp] theorem request_rotation (c : Content) : (s.request c).rotation = s.rotation := (request_sendSide s c).rotation
@[simp] theorem request_cells (c : Content) : (s.request c).cells = s.cells := (request_sendSide s c).cells
@[simp] theorem request_departureSerial (c : Content) : (s.request c).departureSerial = s.departureSerial := (request_sendSide s c).departureSerial
@[simp] theorem request_log (c : Content) : (s.request c).log = s.log := (request_sendSide s c).log
@[simp] theorem request_census (c : Content) : (s.request c).census = s.census := (request_sendSide s c).census
@[simp] theorem request_access (c : Content) : (s.request c).access = s.access := (request_sendSide s c).access
@[simp] theorem request_lastCommand (c : Content) : (s.request c).lastCommand = s.lastCommand := (request_sendSide s c).lastCommand
@[simp] theorem request_lastResult (c : Content) : (s.request c).lastResult = s.lastResult := (request_sendSide s c).lastResult
@[simp] theorem request_restartPending (c : Content) : (s.request c).restartPending = s.restartPending := (request_sendSide s c).restartPending
@[simp] theorem request_lineLow (c : Content) : (s.request c).lineLow = s.lineLow := (request_sendSide s c).lineLow
@[simp] theorem request_key (c : Content) : (s.request c).key = s.key := (request_sendSide s c).key
@[simp] theorem request_supply (c : Content) : (s.request c).supply = s.supply := (request_sendSide s c).supply
@[simp] theorem request_pending (c : Content) : (s.request c).pending = s.pending := (request_sendSide s c).pending
@[simp] theorem request_cell (c : Content) (k : Fin 12) : (s.request c).cell k = s.cell k := (request_sendSide s c).cell k

/-! ### requestCountOfCell -/

@[simp] theorem requestCountOfCell_station (i : Fin 12) (part : Option DeparturePart) : (s.requestCountOfCell i part).station = s.station := (requestCountOfCell_sendSide s i part).station
@[simp] theorem requestCountOfCell_number (i : Fin 12) (part : Option DeparturePart) : (s.requestCountOfCell i part).number = s.number := (requestCountOfCell_sendSide s i part).number
@[simp] theorem requestCountOfCell_neighbours (i : Fin 12) (part : Option DeparturePart) : (s.requestCountOfCell i part).neighbours = s.neighbours := (requestCountOfCell_sendSide s i part).neighbours
@[simp] theorem requestCountOfCell_eventThreshold (i : Fin 12) (part : Option DeparturePart) : (s.requestCountOfCell i part).eventThreshold = s.eventThreshold := (requestCountOfCell_sendSide s i part).eventThreshold
@[simp] theorem requestCountOfCell_settleBand (i : Fin 12) (part : Option DeparturePart) : (s.requestCountOfCell i part).settleBand = s.settleBand := (requestCountOfCell_sendSide s i part).settleBand
@[simp] theorem requestCountOfCell_motionLimit (i : Fin 12) (part : Option DeparturePart) : (s.requestCountOfCell i part).motionLimit = s.motionLimit := (requestCountOfCell_sendSide s i part).motionLimit
@[simp] theorem requestCountOfCell_strayWindow (i : Fin 12) (part : Option DeparturePart) : (s.requestCountOfCell i part).strayWindow = s.strayWindow := (requestCountOfCell_sendSide s i part).strayWindow
@[simp] theorem requestCountOfCell_imageClamped (i : Fin 12) (part : Option DeparturePart) : (s.requestCountOfCell i part).imageClamped = s.imageClamped := (requestCountOfCell_sendSide s i part).imageClamped
@[simp] theorem requestCountOfCell_hashTable (i : Fin 12) (part : Option DeparturePart) : (s.requestCountOfCell i part).hashTable = s.hashTable := (requestCountOfCell_sendSide s i part).hashTable
@[simp] theorem requestCountOfCell_loadFault (i : Fin 12) (part : Option DeparturePart) : (s.requestCountOfCell i part).loadFault = s.loadFault := (requestCountOfCell_sendSide s i part).loadFault
@[simp] theorem requestCountOfCell_loader (i : Fin 12) (part : Option DeparturePart) : (s.requestCountOfCell i part).loader = s.loader := (requestCountOfCell_sendSide s i part).loader
@[simp] theorem requestCountOfCell_eeprom (i : Fin 12) (part : Option DeparturePart) : (s.requestCountOfCell i part).eeprom = s.eeprom := (requestCountOfCell_sendSide s i part).eeprom
@[simp] theorem requestCountOfCell_clock (i : Fin 12) (part : Option DeparturePart) : (s.requestCountOfCell i part).clock = s.clock := (requestCountOfCell_sendSide s i part).clock
@[simp] theorem requestCountOfCell_tallyAt (i : Fin 12) (part : Option DeparturePart) : (s.requestCountOfCell i part).tallyAt = s.tallyAt := (requestCountOfCell_sendSide s i part).tallyAt
@[simp] theorem requestCountOfCell_faultAt (i : Fin 12) (part : Option DeparturePart) : (s.requestCountOfCell i part).faultAt = s.faultAt := (requestCountOfCell_sendSide s i part).faultAt
@[simp] theorem requestCountOfCell_rotation (i : Fin 12) (part : Option DeparturePart) : (s.requestCountOfCell i part).rotation = s.rotation := (requestCountOfCell_sendSide s i part).rotation
@[simp] theorem requestCountOfCell_cells (i : Fin 12) (part : Option DeparturePart) : (s.requestCountOfCell i part).cells = s.cells := (requestCountOfCell_sendSide s i part).cells
@[simp] theorem requestCountOfCell_departureSerial (i : Fin 12) (part : Option DeparturePart) : (s.requestCountOfCell i part).departureSerial = s.departureSerial := (requestCountOfCell_sendSide s i part).departureSerial
@[simp] theorem requestCountOfCell_log (i : Fin 12) (part : Option DeparturePart) : (s.requestCountOfCell i part).log = s.log := (requestCountOfCell_sendSide s i part).log
@[simp] theorem requestCountOfCell_census (i : Fin 12) (part : Option DeparturePart) : (s.requestCountOfCell i part).census = s.census := (requestCountOfCell_sendSide s i part).census
@[simp] theorem requestCountOfCell_access (i : Fin 12) (part : Option DeparturePart) : (s.requestCountOfCell i part).access = s.access := (requestCountOfCell_sendSide s i part).access
@[simp] theorem requestCountOfCell_lastCommand (i : Fin 12) (part : Option DeparturePart) : (s.requestCountOfCell i part).lastCommand = s.lastCommand := (requestCountOfCell_sendSide s i part).lastCommand
@[simp] theorem requestCountOfCell_lastResult (i : Fin 12) (part : Option DeparturePart) : (s.requestCountOfCell i part).lastResult = s.lastResult := (requestCountOfCell_sendSide s i part).lastResult
@[simp] theorem requestCountOfCell_restartPending (i : Fin 12) (part : Option DeparturePart) : (s.requestCountOfCell i part).restartPending = s.restartPending := (requestCountOfCell_sendSide s i part).restartPending
@[simp] theorem requestCountOfCell_lineLow (i : Fin 12) (part : Option DeparturePart) : (s.requestCountOfCell i part).lineLow = s.lineLow := (requestCountOfCell_sendSide s i part).lineLow
@[simp] theorem requestCountOfCell_key (i : Fin 12) (part : Option DeparturePart) : (s.requestCountOfCell i part).key = s.key := (requestCountOfCell_sendSide s i part).key
@[simp] theorem requestCountOfCell_supply (i : Fin 12) (part : Option DeparturePart) : (s.requestCountOfCell i part).supply = s.supply := (requestCountOfCell_sendSide s i part).supply
@[simp] theorem requestCountOfCell_pending (i : Fin 12) (part : Option DeparturePart) : (s.requestCountOfCell i part).pending = s.pending := (requestCountOfCell_sendSide s i part).pending
@[simp] theorem requestCountOfCell_cell (i : Fin 12) (part : Option DeparturePart) (k : Fin 12) : (s.requestCountOfCell i part).cell k = s.cell k := (requestCountOfCell_sendSide s i part).cell k

/-! ### requestCount -/

@[simp] theorem requestCount_station (l : Fin 12) (claim : Bool) (part : Option DeparturePart) : (s.requestCount l claim part).station = s.station := (requestCount_sendSide s l claim part).station
@[simp] theorem requestCount_number (l : Fin 12) (claim : Bool) (part : Option DeparturePart) : (s.requestCount l claim part).number = s.number := (requestCount_sendSide s l claim part).number
@[simp] theorem requestCount_neighbours (l : Fin 12) (claim : Bool) (part : Option DeparturePart) : (s.requestCount l claim part).neighbours = s.neighbours := (requestCount_sendSide s l claim part).neighbours
@[simp] theorem requestCount_eventThreshold (l : Fin 12) (claim : Bool) (part : Option DeparturePart) : (s.requestCount l claim part).eventThreshold = s.eventThreshold := (requestCount_sendSide s l claim part).eventThreshold
@[simp] theorem requestCount_settleBand (l : Fin 12) (claim : Bool) (part : Option DeparturePart) : (s.requestCount l claim part).settleBand = s.settleBand := (requestCount_sendSide s l claim part).settleBand
@[simp] theorem requestCount_motionLimit (l : Fin 12) (claim : Bool) (part : Option DeparturePart) : (s.requestCount l claim part).motionLimit = s.motionLimit := (requestCount_sendSide s l claim part).motionLimit
@[simp] theorem requestCount_strayWindow (l : Fin 12) (claim : Bool) (part : Option DeparturePart) : (s.requestCount l claim part).strayWindow = s.strayWindow := (requestCount_sendSide s l claim part).strayWindow
@[simp] theorem requestCount_imageClamped (l : Fin 12) (claim : Bool) (part : Option DeparturePart) : (s.requestCount l claim part).imageClamped = s.imageClamped := (requestCount_sendSide s l claim part).imageClamped
@[simp] theorem requestCount_hashTable (l : Fin 12) (claim : Bool) (part : Option DeparturePart) : (s.requestCount l claim part).hashTable = s.hashTable := (requestCount_sendSide s l claim part).hashTable
@[simp] theorem requestCount_loadFault (l : Fin 12) (claim : Bool) (part : Option DeparturePart) : (s.requestCount l claim part).loadFault = s.loadFault := (requestCount_sendSide s l claim part).loadFault
@[simp] theorem requestCount_loader (l : Fin 12) (claim : Bool) (part : Option DeparturePart) : (s.requestCount l claim part).loader = s.loader := (requestCount_sendSide s l claim part).loader
@[simp] theorem requestCount_eeprom (l : Fin 12) (claim : Bool) (part : Option DeparturePart) : (s.requestCount l claim part).eeprom = s.eeprom := (requestCount_sendSide s l claim part).eeprom
@[simp] theorem requestCount_clock (l : Fin 12) (claim : Bool) (part : Option DeparturePart) : (s.requestCount l claim part).clock = s.clock := (requestCount_sendSide s l claim part).clock
@[simp] theorem requestCount_tallyAt (l : Fin 12) (claim : Bool) (part : Option DeparturePart) : (s.requestCount l claim part).tallyAt = s.tallyAt := (requestCount_sendSide s l claim part).tallyAt
@[simp] theorem requestCount_faultAt (l : Fin 12) (claim : Bool) (part : Option DeparturePart) : (s.requestCount l claim part).faultAt = s.faultAt := (requestCount_sendSide s l claim part).faultAt
@[simp] theorem requestCount_rotation (l : Fin 12) (claim : Bool) (part : Option DeparturePart) : (s.requestCount l claim part).rotation = s.rotation := (requestCount_sendSide s l claim part).rotation
@[simp] theorem requestCount_cells (l : Fin 12) (claim : Bool) (part : Option DeparturePart) : (s.requestCount l claim part).cells = s.cells := (requestCount_sendSide s l claim part).cells
@[simp] theorem requestCount_departureSerial (l : Fin 12) (claim : Bool) (part : Option DeparturePart) : (s.requestCount l claim part).departureSerial = s.departureSerial := (requestCount_sendSide s l claim part).departureSerial
@[simp] theorem requestCount_log (l : Fin 12) (claim : Bool) (part : Option DeparturePart) : (s.requestCount l claim part).log = s.log := (requestCount_sendSide s l claim part).log
@[simp] theorem requestCount_census (l : Fin 12) (claim : Bool) (part : Option DeparturePart) : (s.requestCount l claim part).census = s.census := (requestCount_sendSide s l claim part).census
@[simp] theorem requestCount_access (l : Fin 12) (claim : Bool) (part : Option DeparturePart) : (s.requestCount l claim part).access = s.access := (requestCount_sendSide s l claim part).access
@[simp] theorem requestCount_lastCommand (l : Fin 12) (claim : Bool) (part : Option DeparturePart) : (s.requestCount l claim part).lastCommand = s.lastCommand := (requestCount_sendSide s l claim part).lastCommand
@[simp] theorem requestCount_lastResult (l : Fin 12) (claim : Bool) (part : Option DeparturePart) : (s.requestCount l claim part).lastResult = s.lastResult := (requestCount_sendSide s l claim part).lastResult
@[simp] theorem requestCount_restartPending (l : Fin 12) (claim : Bool) (part : Option DeparturePart) : (s.requestCount l claim part).restartPending = s.restartPending := (requestCount_sendSide s l claim part).restartPending
@[simp] theorem requestCount_lineLow (l : Fin 12) (claim : Bool) (part : Option DeparturePart) : (s.requestCount l claim part).lineLow = s.lineLow := (requestCount_sendSide s l claim part).lineLow
@[simp] theorem requestCount_key (l : Fin 12) (claim : Bool) (part : Option DeparturePart) : (s.requestCount l claim part).key = s.key := (requestCount_sendSide s l claim part).key
@[simp] theorem requestCount_supply (l : Fin 12) (claim : Bool) (part : Option DeparturePart) : (s.requestCount l claim part).supply = s.supply := (requestCount_sendSide s l claim part).supply
@[simp] theorem requestCount_pending (l : Fin 12) (claim : Bool) (part : Option DeparturePart) : (s.requestCount l claim part).pending = s.pending := (requestCount_sendSide s l claim part).pending
@[simp] theorem requestCount_cell (l : Fin 12) (claim : Bool) (part : Option DeparturePart) (k : Fin 12) : (s.requestCount l claim part).cell k = s.cell k := (requestCount_sendSide s l claim part).cell k

/-! ### evaluate -/

@[simp] theorem evaluate_station (l : Fin 12) : (s.evaluate l).station = s.station := (evaluate_sendSide s l).station
@[simp] theorem evaluate_number (l : Fin 12) : (s.evaluate l).number = s.number := (evaluate_sendSide s l).number
@[simp] theorem evaluate_neighbours (l : Fin 12) : (s.evaluate l).neighbours = s.neighbours := (evaluate_sendSide s l).neighbours
@[simp] theorem evaluate_eventThreshold (l : Fin 12) : (s.evaluate l).eventThreshold = s.eventThreshold := (evaluate_sendSide s l).eventThreshold
@[simp] theorem evaluate_settleBand (l : Fin 12) : (s.evaluate l).settleBand = s.settleBand := (evaluate_sendSide s l).settleBand
@[simp] theorem evaluate_motionLimit (l : Fin 12) : (s.evaluate l).motionLimit = s.motionLimit := (evaluate_sendSide s l).motionLimit
@[simp] theorem evaluate_strayWindow (l : Fin 12) : (s.evaluate l).strayWindow = s.strayWindow := (evaluate_sendSide s l).strayWindow
@[simp] theorem evaluate_imageClamped (l : Fin 12) : (s.evaluate l).imageClamped = s.imageClamped := (evaluate_sendSide s l).imageClamped
@[simp] theorem evaluate_hashTable (l : Fin 12) : (s.evaluate l).hashTable = s.hashTable := (evaluate_sendSide s l).hashTable
@[simp] theorem evaluate_loadFault (l : Fin 12) : (s.evaluate l).loadFault = s.loadFault := (evaluate_sendSide s l).loadFault
@[simp] theorem evaluate_loader (l : Fin 12) : (s.evaluate l).loader = s.loader := (evaluate_sendSide s l).loader
@[simp] theorem evaluate_eeprom (l : Fin 12) : (s.evaluate l).eeprom = s.eeprom := (evaluate_sendSide s l).eeprom
@[simp] theorem evaluate_clock (l : Fin 12) : (s.evaluate l).clock = s.clock := (evaluate_sendSide s l).clock
@[simp] theorem evaluate_tallyAt (l : Fin 12) : (s.evaluate l).tallyAt = s.tallyAt := (evaluate_sendSide s l).tallyAt
@[simp] theorem evaluate_faultAt (l : Fin 12) : (s.evaluate l).faultAt = s.faultAt := (evaluate_sendSide s l).faultAt
@[simp] theorem evaluate_rotation (l : Fin 12) : (s.evaluate l).rotation = s.rotation := (evaluate_sendSide s l).rotation
@[simp] theorem evaluate_cells (l : Fin 12) : (s.evaluate l).cells = s.cells := (evaluate_sendSide s l).cells
@[simp] theorem evaluate_departureSerial (l : Fin 12) : (s.evaluate l).departureSerial = s.departureSerial := (evaluate_sendSide s l).departureSerial
@[simp] theorem evaluate_log (l : Fin 12) : (s.evaluate l).log = s.log := (evaluate_sendSide s l).log
@[simp] theorem evaluate_census (l : Fin 12) : (s.evaluate l).census = s.census := (evaluate_sendSide s l).census
@[simp] theorem evaluate_access (l : Fin 12) : (s.evaluate l).access = s.access := (evaluate_sendSide s l).access
@[simp] theorem evaluate_lastCommand (l : Fin 12) : (s.evaluate l).lastCommand = s.lastCommand := (evaluate_sendSide s l).lastCommand
@[simp] theorem evaluate_lastResult (l : Fin 12) : (s.evaluate l).lastResult = s.lastResult := (evaluate_sendSide s l).lastResult
@[simp] theorem evaluate_restartPending (l : Fin 12) : (s.evaluate l).restartPending = s.restartPending := (evaluate_sendSide s l).restartPending
@[simp] theorem evaluate_lineLow (l : Fin 12) : (s.evaluate l).lineLow = s.lineLow := (evaluate_sendSide s l).lineLow
@[simp] theorem evaluate_key (l : Fin 12) : (s.evaluate l).key = s.key := (evaluate_sendSide s l).key
@[simp] theorem evaluate_supply (l : Fin 12) : (s.evaluate l).supply = s.supply := (evaluate_sendSide s l).supply
@[simp] theorem evaluate_pending (l : Fin 12) : (s.evaluate l).pending = s.pending := (evaluate_sendSide s l).pending
@[simp] theorem evaluate_cell (l : Fin 12) (k : Fin 12) : (s.evaluate l).cell k = s.cell k := (evaluate_sendSide s l).cell k

/-! ### failAttempt -/

@[simp] theorem failAttempt_station (f : SendFrame) : (s.failAttempt f).station = s.station := (failAttempt_sendSide s f).station
@[simp] theorem failAttempt_number (f : SendFrame) : (s.failAttempt f).number = s.number := (failAttempt_sendSide s f).number
@[simp] theorem failAttempt_neighbours (f : SendFrame) : (s.failAttempt f).neighbours = s.neighbours := (failAttempt_sendSide s f).neighbours
@[simp] theorem failAttempt_eventThreshold (f : SendFrame) : (s.failAttempt f).eventThreshold = s.eventThreshold := (failAttempt_sendSide s f).eventThreshold
@[simp] theorem failAttempt_settleBand (f : SendFrame) : (s.failAttempt f).settleBand = s.settleBand := (failAttempt_sendSide s f).settleBand
@[simp] theorem failAttempt_motionLimit (f : SendFrame) : (s.failAttempt f).motionLimit = s.motionLimit := (failAttempt_sendSide s f).motionLimit
@[simp] theorem failAttempt_strayWindow (f : SendFrame) : (s.failAttempt f).strayWindow = s.strayWindow := (failAttempt_sendSide s f).strayWindow
@[simp] theorem failAttempt_imageClamped (f : SendFrame) : (s.failAttempt f).imageClamped = s.imageClamped := (failAttempt_sendSide s f).imageClamped
@[simp] theorem failAttempt_hashTable (f : SendFrame) : (s.failAttempt f).hashTable = s.hashTable := (failAttempt_sendSide s f).hashTable
@[simp] theorem failAttempt_loadFault (f : SendFrame) : (s.failAttempt f).loadFault = s.loadFault := (failAttempt_sendSide s f).loadFault
@[simp] theorem failAttempt_loader (f : SendFrame) : (s.failAttempt f).loader = s.loader := (failAttempt_sendSide s f).loader
@[simp] theorem failAttempt_eeprom (f : SendFrame) : (s.failAttempt f).eeprom = s.eeprom := (failAttempt_sendSide s f).eeprom
@[simp] theorem failAttempt_clock (f : SendFrame) : (s.failAttempt f).clock = s.clock := (failAttempt_sendSide s f).clock
@[simp] theorem failAttempt_tallyAt (f : SendFrame) : (s.failAttempt f).tallyAt = s.tallyAt := (failAttempt_sendSide s f).tallyAt
@[simp] theorem failAttempt_faultAt (f : SendFrame) : (s.failAttempt f).faultAt = s.faultAt := (failAttempt_sendSide s f).faultAt
@[simp] theorem failAttempt_rotation (f : SendFrame) : (s.failAttempt f).rotation = s.rotation := (failAttempt_sendSide s f).rotation
@[simp] theorem failAttempt_cells (f : SendFrame) : (s.failAttempt f).cells = s.cells := (failAttempt_sendSide s f).cells
@[simp] theorem failAttempt_departureSerial (f : SendFrame) : (s.failAttempt f).departureSerial = s.departureSerial := (failAttempt_sendSide s f).departureSerial
@[simp] theorem failAttempt_log (f : SendFrame) : (s.failAttempt f).log = s.log := (failAttempt_sendSide s f).log
@[simp] theorem failAttempt_census (f : SendFrame) : (s.failAttempt f).census = s.census := (failAttempt_sendSide s f).census
@[simp] theorem failAttempt_access (f : SendFrame) : (s.failAttempt f).access = s.access := (failAttempt_sendSide s f).access
@[simp] theorem failAttempt_lastCommand (f : SendFrame) : (s.failAttempt f).lastCommand = s.lastCommand := (failAttempt_sendSide s f).lastCommand
@[simp] theorem failAttempt_lastResult (f : SendFrame) : (s.failAttempt f).lastResult = s.lastResult := (failAttempt_sendSide s f).lastResult
@[simp] theorem failAttempt_restartPending (f : SendFrame) : (s.failAttempt f).restartPending = s.restartPending := (failAttempt_sendSide s f).restartPending
@[simp] theorem failAttempt_lineLow (f : SendFrame) : (s.failAttempt f).lineLow = s.lineLow := (failAttempt_sendSide s f).lineLow
@[simp] theorem failAttempt_key (f : SendFrame) : (s.failAttempt f).key = s.key := (failAttempt_sendSide s f).key
@[simp] theorem failAttempt_supply (f : SendFrame) : (s.failAttempt f).supply = s.supply := (failAttempt_sendSide s f).supply
@[simp] theorem failAttempt_pending (f : SendFrame) : (s.failAttempt f).pending = s.pending := (failAttempt_sendSide s f).pending
@[simp] theorem failAttempt_cell (f : SendFrame) (k : Fin 12) : (s.failAttempt f).cell k = s.cell k := (failAttempt_sendSide s f).cell k

/-! ### requestTally -/

@[simp] theorem requestTally_station : (s.requestTally).station = s.station := (requestTally_sendSide s).station
@[simp] theorem requestTally_number : (s.requestTally).number = s.number := (requestTally_sendSide s).number
@[simp] theorem requestTally_neighbours : (s.requestTally).neighbours = s.neighbours := (requestTally_sendSide s).neighbours
@[simp] theorem requestTally_eventThreshold : (s.requestTally).eventThreshold = s.eventThreshold := (requestTally_sendSide s).eventThreshold
@[simp] theorem requestTally_settleBand : (s.requestTally).settleBand = s.settleBand := (requestTally_sendSide s).settleBand
@[simp] theorem requestTally_motionLimit : (s.requestTally).motionLimit = s.motionLimit := (requestTally_sendSide s).motionLimit
@[simp] theorem requestTally_strayWindow : (s.requestTally).strayWindow = s.strayWindow := (requestTally_sendSide s).strayWindow
@[simp] theorem requestTally_imageClamped : (s.requestTally).imageClamped = s.imageClamped := (requestTally_sendSide s).imageClamped
@[simp] theorem requestTally_hashTable : (s.requestTally).hashTable = s.hashTable := (requestTally_sendSide s).hashTable
@[simp] theorem requestTally_loadFault : (s.requestTally).loadFault = s.loadFault := (requestTally_sendSide s).loadFault
@[simp] theorem requestTally_loader : (s.requestTally).loader = s.loader := (requestTally_sendSide s).loader
@[simp] theorem requestTally_eeprom : (s.requestTally).eeprom = s.eeprom := (requestTally_sendSide s).eeprom
@[simp] theorem requestTally_clock : (s.requestTally).clock = s.clock := (requestTally_sendSide s).clock
@[simp] theorem requestTally_tallyAt : (s.requestTally).tallyAt = s.tallyAt := (requestTally_sendSide s).tallyAt
@[simp] theorem requestTally_faultAt : (s.requestTally).faultAt = s.faultAt := (requestTally_sendSide s).faultAt
@[simp] theorem requestTally_rotation : (s.requestTally).rotation = s.rotation := (requestTally_sendSide s).rotation
@[simp] theorem requestTally_cells : (s.requestTally).cells = s.cells := (requestTally_sendSide s).cells
@[simp] theorem requestTally_departureSerial : (s.requestTally).departureSerial = s.departureSerial := (requestTally_sendSide s).departureSerial
@[simp] theorem requestTally_log : (s.requestTally).log = s.log := (requestTally_sendSide s).log
@[simp] theorem requestTally_census : (s.requestTally).census = s.census := (requestTally_sendSide s).census
@[simp] theorem requestTally_access : (s.requestTally).access = s.access := (requestTally_sendSide s).access
@[simp] theorem requestTally_lastCommand : (s.requestTally).lastCommand = s.lastCommand := (requestTally_sendSide s).lastCommand
@[simp] theorem requestTally_lastResult : (s.requestTally).lastResult = s.lastResult := (requestTally_sendSide s).lastResult
@[simp] theorem requestTally_restartPending : (s.requestTally).restartPending = s.restartPending := (requestTally_sendSide s).restartPending
@[simp] theorem requestTally_lineLow : (s.requestTally).lineLow = s.lineLow := (requestTally_sendSide s).lineLow
@[simp] theorem requestTally_key : (s.requestTally).key = s.key := (requestTally_sendSide s).key
@[simp] theorem requestTally_supply : (s.requestTally).supply = s.supply := (requestTally_sendSide s).supply
@[simp] theorem requestTally_pending : (s.requestTally).pending = s.pending := (requestTally_sendSide s).pending
@[simp] theorem requestTally_cell (k : Fin 12) : (s.requestTally).cell k = s.cell k := (requestTally_sendSide s).cell k

/-! ### requestCommand -/

@[simp] theorem requestCommand_station (command : CommandCode) (codes : List Code) : (s.requestCommand command codes).station = s.station := (requestCommand_sendSide s command codes).station
@[simp] theorem requestCommand_number (command : CommandCode) (codes : List Code) : (s.requestCommand command codes).number = s.number := (requestCommand_sendSide s command codes).number
@[simp] theorem requestCommand_neighbours (command : CommandCode) (codes : List Code) : (s.requestCommand command codes).neighbours = s.neighbours := (requestCommand_sendSide s command codes).neighbours
@[simp] theorem requestCommand_eventThreshold (command : CommandCode) (codes : List Code) : (s.requestCommand command codes).eventThreshold = s.eventThreshold := (requestCommand_sendSide s command codes).eventThreshold
@[simp] theorem requestCommand_settleBand (command : CommandCode) (codes : List Code) : (s.requestCommand command codes).settleBand = s.settleBand := (requestCommand_sendSide s command codes).settleBand
@[simp] theorem requestCommand_motionLimit (command : CommandCode) (codes : List Code) : (s.requestCommand command codes).motionLimit = s.motionLimit := (requestCommand_sendSide s command codes).motionLimit
@[simp] theorem requestCommand_strayWindow (command : CommandCode) (codes : List Code) : (s.requestCommand command codes).strayWindow = s.strayWindow := (requestCommand_sendSide s command codes).strayWindow
@[simp] theorem requestCommand_imageClamped (command : CommandCode) (codes : List Code) : (s.requestCommand command codes).imageClamped = s.imageClamped := (requestCommand_sendSide s command codes).imageClamped
@[simp] theorem requestCommand_hashTable (command : CommandCode) (codes : List Code) : (s.requestCommand command codes).hashTable = s.hashTable := (requestCommand_sendSide s command codes).hashTable
@[simp] theorem requestCommand_loadFault (command : CommandCode) (codes : List Code) : (s.requestCommand command codes).loadFault = s.loadFault := (requestCommand_sendSide s command codes).loadFault
@[simp] theorem requestCommand_loader (command : CommandCode) (codes : List Code) : (s.requestCommand command codes).loader = s.loader := (requestCommand_sendSide s command codes).loader
@[simp] theorem requestCommand_eeprom (command : CommandCode) (codes : List Code) : (s.requestCommand command codes).eeprom = s.eeprom := (requestCommand_sendSide s command codes).eeprom
@[simp] theorem requestCommand_clock (command : CommandCode) (codes : List Code) : (s.requestCommand command codes).clock = s.clock := (requestCommand_sendSide s command codes).clock
@[simp] theorem requestCommand_tallyAt (command : CommandCode) (codes : List Code) : (s.requestCommand command codes).tallyAt = s.tallyAt := (requestCommand_sendSide s command codes).tallyAt
@[simp] theorem requestCommand_faultAt (command : CommandCode) (codes : List Code) : (s.requestCommand command codes).faultAt = s.faultAt := (requestCommand_sendSide s command codes).faultAt
@[simp] theorem requestCommand_rotation (command : CommandCode) (codes : List Code) : (s.requestCommand command codes).rotation = s.rotation := (requestCommand_sendSide s command codes).rotation
@[simp] theorem requestCommand_cells (command : CommandCode) (codes : List Code) : (s.requestCommand command codes).cells = s.cells := (requestCommand_sendSide s command codes).cells
@[simp] theorem requestCommand_departureSerial (command : CommandCode) (codes : List Code) : (s.requestCommand command codes).departureSerial = s.departureSerial := (requestCommand_sendSide s command codes).departureSerial
@[simp] theorem requestCommand_log (command : CommandCode) (codes : List Code) : (s.requestCommand command codes).log = s.log := (requestCommand_sendSide s command codes).log
@[simp] theorem requestCommand_census (command : CommandCode) (codes : List Code) : (s.requestCommand command codes).census = s.census := (requestCommand_sendSide s command codes).census
@[simp] theorem requestCommand_access (command : CommandCode) (codes : List Code) : (s.requestCommand command codes).access = s.access := (requestCommand_sendSide s command codes).access
@[simp] theorem requestCommand_lastCommand (command : CommandCode) (codes : List Code) : (s.requestCommand command codes).lastCommand = s.lastCommand := (requestCommand_sendSide s command codes).lastCommand
@[simp] theorem requestCommand_lastResult (command : CommandCode) (codes : List Code) : (s.requestCommand command codes).lastResult = s.lastResult := (requestCommand_sendSide s command codes).lastResult
@[simp] theorem requestCommand_restartPending (command : CommandCode) (codes : List Code) : (s.requestCommand command codes).restartPending = s.restartPending := (requestCommand_sendSide s command codes).restartPending
@[simp] theorem requestCommand_lineLow (command : CommandCode) (codes : List Code) : (s.requestCommand command codes).lineLow = s.lineLow := (requestCommand_sendSide s command codes).lineLow
@[simp] theorem requestCommand_key (command : CommandCode) (codes : List Code) : (s.requestCommand command codes).key = s.key := (requestCommand_sendSide s command codes).key
@[simp] theorem requestCommand_supply (command : CommandCode) (codes : List Code) : (s.requestCommand command codes).supply = s.supply := (requestCommand_sendSide s command codes).supply
@[simp] theorem requestCommand_pending (command : CommandCode) (codes : List Code) : (s.requestCommand command codes).pending = s.pending := (requestCommand_sendSide s command codes).pending
@[simp] theorem requestCommand_cell (command : CommandCode) (codes : List Code) (k : Fin 12) : (s.requestCommand command codes).cell k = s.cell k := (requestCommand_sendSide s command codes).cell k

end Sys2Proof.Machine
end

