-- ==== Sys2Proof/Tests/Slice0.lean ====
section
/-! SUPPORT. Tests: ill-formed commands that the check refuses, worked figures of the spec, and for each obligation with hypotheses a
state and operands that meet them. -/

namespace Sys2Proof.Tests

open Sys2Proof.Machine

set_option Elab.async false

/-! ### Ill-formed commands are refused -/

theorem test_wf_position : (Instr.eepromNoAnswer ⟨512, false⟩).wf = false ∧ (Instr.eepromNoAnswer ⟨511, true⟩).wf = true := by decide
theorem test_wf_image : (Instr.imageLoadEnd (List.replicate 513 0)).wf = false := by decide +kernel
theorem test_wf_length : (Instr.overLengthDiscard 80).wf = false ∧ (Instr.overLengthDiscard 81).wf = true := by decide
theorem test_wf_slot : (Instr.contentionSlot 96).wf = false ∧ (Instr.contentionSlot 95).wf = true := by decide
theorem test_wf_sync : (Instr.syncMismatch 0xA5).wf = false ∧ (Instr.syncMismatch 0).wf = true := by decide
theorem test_wf_tally : (Instr.tallyTaken 6 (List.replicate 13 ⟨1, 0, 0⟩)).wf = false := by decide
theorem test_wf_census : (Instr.censusTaken 6 []).wf = false ∧ (Instr.censusTaken 6 (List.replicate 13 1)).wf = false := by decide
theorem test_wf_payload : (Instr.ack 6 0 0 (.codes (List.replicate 13 1))).wf = false ∧
    (Instr.zero 31 5 0 (.codes (List.replicate 13 1))).wf = false := by decide
theorem test_wf_peer : (Instr.entryStale 0 0).wf = false ∧ (Instr.entryRemoved 0 31).wf = false := by decide
theorem test_wf_code : (Instr.unknownCommandCode 31 5 16 0 (.cell 0)).wf = false ∧
    (Instr.unknownCommandCode 31 5 4 0 (.cell 0)).wf = true := by decide +kernel
/-- R110, R127: a good frame, an over-length header and an incomplete row of characters are no bad frame; a FAULT with a wrong check
is, and 80 body characters are complete. -/
theorem test_wf_badFrame : (Instr.badFrame (frameAfterSync ⟨5, .fault ⟨2, 255⟩⟩)).wf = false ∧
    (Instr.badFrame ([5, 84, 6] ++ List.replicate 86 0)).wf = false ∧ (Instr.badFrame [8, 2, 5, 2, 255]).wf = false ∧
    (Instr.badFrame [8, 2, 5, 2, 255, 0, 0]).wf = true ∧ isComplete ([5, 80, 6] ++ List.replicate 82 0) = true := by
  decide +kernel

/-! ### Worked figures of the spec -/

/-- R169: the CRC of the nine characters "123456789" is 29B1 hex. -/
theorem test_crc : crc16 [0x31, 0x32, 0x33, 0x34, 0x35, 0x36, 0x37, 0x38, 0x39] = 0x29B1 := by decide +kernel

/-- Table 1-2: the four rows of the worked calibration. -/
theorem test_calibration :
    sampleOf 1234567 120000 1180 = ⟨20068, false⟩ ∧ sampleOf 22304 120608 1 = ⟨-2, false⟩ ∧
    sampleOf 8000000 120000 2500 = ⟨300000, true⟩ ∧ sampleOf 8388607 0 1 = ⟨300000, true⟩ := by decide +kernel

/-- A window of unmarked weights. -/
def windowOf (weights : List Int) : List Sample := weights.map (fun w => ⟨w, false⟩)

/-- 1.3: the worked window is settled about 20,067 g, and after 20,091 g it is not, about 20,071 g. -/
theorem test_window :
    let w := windowOf [20061, 20068, 20070, 20066, 20072, 20064, 20069, 20067]
    let v := appendSample w ⟨20091, false⟩
    windowMean w = 20067 ∧ settled 15 w = true ∧ windowMean v = 20071 ∧ settled 15 v = false := by decide +kernel

/-- Table 2-3: allowances for tolerances of 60 g and 20 g. -/
theorem test_allowance : allowance 60 1 = 60 ∧ allowance 60 (-2) = 75 ∧ allowance 60 38 = 615 ∧ allowance 60 255 = 3870 ∧
    allowance 20 255 = 1290 := by decide +kernel

/-- The article of 2.9: code 100,341, 1,250 g, tolerance 60 g, cell 3. -/
def demoConfig : LineConfig := ⟨100341, 1250, 60, 20, 5, 2, 30, [3]⟩

/-- Cell 3 of 2.9 with 13 cases, at rest at 16,270 g after two were lifted. -/
def demoCell : CellRecord := { CellRecord.blank with
  state := .rest, line := some 0, gain := 65535, window := List.replicate 8 ⟨16270, false⟩, count := 13, baseline := 18760, tray := 2510 }

/-- The line of that article, alone in the aisle. -/
def demoLine : ArticleLine := { ArticleLine.blank with config := demoConfig, state := .solo, ownCount := 13, lead := 5 }

/-- Station 5 in RUNNING with that one cell and line; every hash bit is set. -/
def demo : State := { State.reset with
  station := .running, number := 5, neighbours := [6], eventThreshold := 150, settleBand := 15, motionLimit := 5, strayWindow := 5
  hashTable := BitVec.allOnes 64, clock := 7000000, tallyAt := 7000000, rotation := 3, cells := State.reset.cells.set 3 demoCell
  departureSerial := 6, lines := State.reset.lines.set 0 demoLine, census := .ended 0
  access := ⟨false, 0, 6, .assembling, none⟩ }

/-- The station with its cell changed. -/
def withCell (f : CellRecord → CellRecord) : State := demo.setCell 3 (f demoCell)

/-- The station with its line changed. -/
def withLine (f : ArticleLine → ArticleLine) : State := demo.setLine 0 (f demoLine)

/-- A state that a command answers. -/
def after (c : Instr) (s : State) : State :=
  match exec c s with
  | .next t => t
  | .fault _ | .refused _ => s

/-- 2.9: a pick of two; Table 2-4 gives count, baseline, serial and the entry. -/
theorem test_pick :
    let t := demo.judge 3 16270
    (t.cell 3).count = 11 ∧ (t.cell 3).baseline = 16270 ∧ t.departureSerial = 7 ∧ (t.line 0).ownCount = 11 ∧
    t.log = [⟨5, 7, 100341, 1250, 60, 2, 7000000⟩] := by decide +kernel

/-- 2.9: a step of -1,875 g cannot be explained; Table 2-5 gives the balance. -/
theorem test_doubt :
    let t := (withCell (fun c => { c with count := 11, baseline := 16270 })).judge 3 14395
    (t.cell 3).count = 11 ∧ (t.cell 3).baseline = 14395 ∧ (t.cell 3).balance = -1875 ∧ t.queue = [] ∧
    t.lampPattern 3 = .doubleFlash := by decide +kernel

/-- R113: with last sender 6, station 5 has offset 30 and station 7 offset 0. -/
theorem test_offset : demo.offset = 30 ∧ ({ demo with number := 7 } : State).offset = 0 := by decide +kernel

/-- R110: a row of characters whose header gives 84 body characters is over-length and no bad frame. -/
theorem test_overLength :
    let t := after (.badFrame ([5, 84, 6] ++ List.replicate 86 0)) demo
    t.counters.overLength = 1 ∧ t.counters.badFrames = 0 ∧ t.access.lastSender = 0 := by decide +kernel

/-- R108: of a bit time at 0 the quiet count counts nothing, of one at 1 it counts one. -/
theorem test_quiet :
    let t := (after (.carrier 1) demo).passBitTime
    t.access.quiet = 0 ∧ t.lineLow = 0 ∧ t.passBitTime.access.quiet = 1 := by decide +kernel

/-- R112: slot 0 comes at the moment of idle, and again at the moment at which slot 95 ends. -/
theorem test_slotZero :
    (after .lineIdle { demo with tallyAt := 8000000 }).due = [.contentionSlot 0] ∧
    ({ demo with tallyAt := 8000000, access := ⟨true, 20, 6, .ready, some ⟨96, 1920⟩⟩ } : State).due = [.roundRepeat] := by
  decide +kernel

/-- R152: after entry to RUNNING a closed key begins no press until it has been open. -/
theorem test_keyWaitsForOpen :
    let s := { demo with key := ⟨true, 7000000, none⟩ }
    (after .keyPressBegin s).key.press = none ∧
    (after .keyPressBegin (after .keyRelease s)).key.press = some ⟨7004000, false⟩ := by decide +kernel

/-- Table 9-1 with 00_scope.md, Quantities: 0 to 500 ms and 200 to 300 ms hold both their ends, and nothing beyond. -/
theorem test_lampEnds :
    Pattern.slowBlink.litAt 50000 = true ∧ Pattern.slowBlink.litAt 50001 = false ∧ Pattern.doubleFlash.litAt 19999 = false ∧
    Pattern.doubleFlash.litAt 20000 = true ∧ Pattern.doubleFlash.litAt 30000 = true ∧ Pattern.fastBlink.litAt 87501 = false := by
  decide

/-- R157: three failures end the load only where the memory has answered none between. -/
theorem test_silence :
    let failed (s : State) (answered : Bool) := after (.eepromNoAnswer ⟨0, answered⟩) s
    (failed (failed (failed State.reset false) true) false).station = .loading ∧
    (failed (failed (failed State.reset false) false) false).station = .unconfigured := by decide +kernel

/-! ### A state and operands for the hypotheses of each obligation -/

theorem witness_ConversionCodeGivesWindowWeight :
    (BitVec.ofInt 24 (-8388608)).toInt = -8388608 ∧ (BitVec.ofInt 24 8388607).toInt = 8388607 ∧
    ((8000000 : Conversion).toInt ≠ 8388607 ∧ Rounded ((8000000 - 120000) * 2500) 65536 300598) ∧
    Rounded ((300000 - 0) * 65536) 65536 300000 ∧ Rounded ((-20001 - 0) * 65536) 65536 (-20001) ∧
    ∃ x ∈ [(⟨300000, true⟩ : Sample)], x.saturated = true := by
  simp only [Rounded]; decide +kernel

/-- A code that the demo cell weighs at 16,270 g. -/
def steady : Conversion := 16270

theorem witness_SettledConversionIsHandedToTheEvaluator :
    demo.station = .running ∧ inRange steady = true ∧
    settled demo.settleBand (appendSample demoCell.window (sampleOf steady demoCell.zeroOffset demoCell.gain)) = true ∧
    ((withCell (fun c => { c with state := .motion })).cell 3).state = .motion ∧
    ((withCell (fun c => { c with state := .unsteady })).cell 3).state = .unsteady ∧
    ((withCell (fun c => { c with state := .warming, warmUp := 1 })).cell 3).warmUp ≤ 1 ∧
    (demo.cell demo.rotation).state = .rest ∧
    demo.eventThreshold ≤ |windowMean (appendSample demoCell.window (sampleOf steady 0 65535)) - demoCell.baseline| := by
  decide +kernel

theorem witness_BridgeFaultEntryAndRecovery :
    let out : Conversion := 8388607
    demo.station = .running ∧ inRange out = false ∧
    (∀ x ∈ [CellState.warming, .motion, .rest, .unsteady],
      4 ≤ ((withCell (fun c => { c with state := x, faultRun := 3 })).cell 3).faultRun + 1) ∧
    ((withCell (fun c => { c with state := .fault, faultRun := 3 })).cell 3).state = .fault ∧ inRange steady = true := by
  decide +kernel

theorem witness_OwnCountTestFindsUnitNumber :
    Rounded (-2490) 1250 (-2) ∧ |(-2490 : Int) - (-2) * 1250| ≤ 60 + (60 * (2 - 1)) / 4 ∧
    4 * 60 ≤ 1250 ∧ 2 * |(625 : Int)| = 1250 ∧ 2 * (1875 : Int) = 3 * 1250 ∧ 2 * (-1875 : Int) = -3 * 1250 := by
  simp only [Rounded]; decide +kernel

theorem witness_DriftMovesTheBaselineAlone :
    |(18909 : Int) - (demo.cell 3).baseline| < demo.eventThreshold ∧ (demo.cell 3).firstRest = false ∧
    (let s := withCell (fun c => { c with baseline := 16270 });
      (s.cell 3).state = .rest ∧ settled s.settleBand (s.cell 3).window = true ∧ windowMean (s.cell 3).window = 16270 ∧
      |(16270 : Int) - (s.cell 3).baseline| < s.eventThreshold) := by decide +kernel

theorem witness_BalanceReversalTakesTheWholeBalance :
    let s := withCell (fun c => { c with balance := -1875, baseline := 14395 })
    (s.cell 3).firstRest = false ∧ s.eventThreshold ≤ |(16270 : Int) - 14395| ∧ (s.cell 3).balance ≠ 0 ∧
    |(16270 : Int) - 14395 + (s.cell 3).balance| ≤ (s.configOfCell 3).tolerance ∧
    ¬ ((demo.cell 3).balance ≠ 0 ∧ |(16270 : Int) - 18760 + (demo.cell 3).balance| ≤ (demo.configOfCell 3).tolerance) := by
  decide +kernel

/-- A stray of 905 g from station 6. -/
def demoStray : StrayRecord := ⟨7, 905, 40, 6, 2⟩

theorem witness_StrayRemovalTakesTheYoungestFittingStray :
    let s := withCell (fun c => { c with strays := [demoStray, ⟨8, 400, 20, 6, 3⟩] })
    (s.cell 3).firstRest = false ∧ s.eventThreshold ≤ |(17815 : Int) - (s.cell 3).baseline| ∧
    ¬ ((s.cell 3).balance ≠ 0 ∧ |(17815 : Int) - (s.cell 3).baseline + (s.cell 3).balance| ≤ (s.configOfCell 3).tolerance) ∧
    (17815 : Int) - (s.cell 3).baseline < 0 ∧ (s.cell 3).strays = [] ++ demoStray :: [⟨8, 400, 20, 6, 3⟩] ∧
    |(-(17815 - (s.cell 3).baseline)) - demoStray.unitWeight| ≤ demoStray.tolerance ∧
    ∀ y ∈ [(⟨8, 400, 20, 6, 3⟩ : StrayRecord)], (y.tolerance : Int) < |(-(17815 - (s.cell 3).baseline)) - y.unitWeight| := by
  decide +kernel

theorem witness_PickAndReturnCountUnits :
    (demo.cell 3).line = some 0 ∧ (demo.cell 3).firstRest = false ∧ demo.eventThreshold ≤ |(16270 : Int) - (demo.cell 3).baseline| ∧
    ¬ ((demo.cell 3).balance ≠ 0 ∧ |(16270 : Int) - 18760 + (demo.cell 3).balance| ≤ (demo.line 0).config.tolerance) ∧
    (∀ y ∈ (demo.cell 3).strays, (y.tolerance : Int) < |(-(16270 - 18760 : Int)) - y.unitWeight|) ∧
    unitNumber (16270 - 18760) (demo.line 0).config.unitWeight (demo.line 0).config.tolerance = some (-2) ∧
    unitNumber (20010 - 18760) (demo.line 0).config.unitWeight (demo.line 0).config.tolerance = some 1 ∧
    unitNumber (255 * 1250) 1250 60 = some 255 ∧ unitNumber (256 * 1250) 1250 60 = none := by decide +kernel

/-- A departure of station 6. -/
def demoDeparture : Departure := ⟨6, 2, 7, 905, 40, 2, 6000000⟩

theorem witness_StrayPlacementTakesTheYoungestDeparture :
    let s := { demo with log := [demoDeparture] }
    (s.cell 3).line = some 0 ∧ (s.cell 3).firstRest = false ∧ s.eventThreshold ≤ |(19670 : Int) - (s.cell 3).baseline| ∧
    ¬ ((s.cell 3).balance ≠ 0 ∧ |(19670 : Int) - 18760 + (s.cell 3).balance| ≤ (s.line 0).config.tolerance) ∧
    0 < (19670 : Int) - (s.cell 3).baseline ∧ unitNumber (19670 - 18760) 1250 60 = none ∧
    (s.line 0).alert.state ≠ .restocking ∧ (s.cell 3).strays.length < 4 ∧ s.log = [] ++ demoDeparture :: [] ∧
    demoDeparture.code ≠ (s.line 0).config.code ∧ |(19670 : Int) - 18760 - demoDeparture.unitWeight| ≤ demoDeparture.tolerance := by
  decide +kernel

theorem witness_DoubtAddsTheStepToTheBalance :
    let s := withCell (fun c => { c with baseline := 16270 })
    let r := withLine (fun a => { a with alert := ⟨.restocking, 0, none, false, some 5⟩ })
    let four := withCell (fun c => { c with strays := List.replicate 4 demoStray })
    (s.cell 3).line = some 0 ∧ (s.cell 3).firstRest = false ∧ s.eventThreshold ≤ |(14395 : Int) - (s.cell 3).baseline| ∧
    ¬ ((s.cell 3).balance ≠ 0 ∧ |(14395 : Int) - 16270 + (s.cell 3).balance| ≤ (s.line 0).config.tolerance) ∧
    (∀ y ∈ (s.cell 3).strays, (y.tolerance : Int) < |(-(14395 - 16270 : Int)) - y.unitWeight|) ∧
    unitNumber (14395 - 16270) 1250 60 = none ∧ (14395 : Int) - 16270 ≤ 0 ∧
    ((r.line 0).alert.state = .restocking ∧ unitNumber (19670 - 18760) 1250 60 = none) ∧ 4 ≤ (four.cell 3).strays.length ∧
    ∀ e ∈ demo.log, e.code = (demo.line 0).config.code ∨ (e.tolerance : Int) < |(19670 : Int) - 18760 - e.unitWeight| := by
  decide +kernel

theorem witness_RecountMeasuresTheLane :
    let s := withCell (fun c => { c with firstRest := true })
    (s.cell 3).line = some 0 ∧ 0 < (s.line 0).config.unitWeight ∧ (s.cell 3).firstRest = true ∧
    Rounded (16270 - 2510 - 0) 1250 11 := by
  simp only [Rounded]; decide +kernel

theorem witness_ConversionWithoutInstant :
    let wild : Conversion := 9000
    let w := appendSample demoCell.window (sampleOf wild 0 65535)
    demo.station = .running ∧ settled demo.settleBand w = false ∧ inRange wild = true ∧
    (demo.cell 2).state = .unused ∧
    ((withCell (fun c => { c with state := .fault, faultRun := 2 })).cell 3).faultRun + 1 < 4 ∧
    1 < ((withCell (fun c => { c with state := .warming, warmUp := 2 })).cell 3).warmUp ∧
    ((withCell (fun c => { c with state := .warming, warmUp := 1 })).cell 3).warmUp ≤ 1 ∧
    |windowMean (appendSample demoCell.window (sampleOf steady 0 65535)) - 16270| < demo.eventThreshold ∧
    ((withCell (fun c => { c with state := .motion, motionCount := 48 })).cell 3).motionCount + 1 ≠ 10 * demo.motionLimit ∧
    ((withCell (fun c => { c with state := .motion, motionCount := 49 })).cell 3).motionCount + 1 = 10 * demo.motionLimit ∧
    ((withCell (fun c => { c with state := .unsteady })).cell 3).state = .unsteady ∧ State.reset.station ≠ .running ∧
    demoCell.window.length = 8 ∧ demoCell.window = ⟨16270, false⟩ :: List.replicate 7 ⟨16270, false⟩ ∧
    demoCell.window.tail.length < 8 ∧ demoCell.window ≠ [] := by
  decide +kernel

theorem witness_FullLogEvictsItsOldestEntry :
    let s := { demo with log := demoDeparture :: List.replicate 15 demoDeparture }
    demo.log.length < 16 ∧ s.log = demoDeparture :: List.replicate 15 demoDeparture ∧ s.log.length = 16 := by decide +kernel

/-- The demo station has a frame in assembly. -/
theorem demo_inAssembly : demo.inAssembly = some demo := rfl

theorem witness_EntriesLeaveTheLog :
    let s := { demo with log := [demoDeparture] }
    s.log = demoDeparture :: [] ∧ s.station = .running ∧ demo.log = [] ∧ s.inAssembly = some s ∧
    6 ∈ s.neighbours ∧ 6 ≠ s.number ∧ 1 ≤ (6 : Byte).toNat ∧ (30 : Byte).toNat ≤ 30 ∧
    demoDeparture.origin = (6 : Byte).toNat ∧ demoDeparture.serial = 2 ∧ 7 ∉ s.neighbours :=
  ⟨rfl, rfl, rfl, rfl, by decide, by decide, by decide, by decide, by decide, by decide, by decide⟩

/-- A map entry of station 6. -/
def demoEntry : MapEntry := ⟨6, 4, some 255, 6000000, false⟩

theorem witness_MapEntryTakesAPeersReport :
    let a := { demoLine with map := [demoEntry] }
    let full := { demoLine with map := (List.range 12).map (fun k => ⟨10 + k, 1, none, 0, false⟩) }
    a.map = [] ++ demoEntry :: [] ∧ demoEntry.station = 6 ∧ demoEntry.lastSerial = some 255 ∧ (0 : Byte) = 255 + 1 ∧
    (1 : Byte) ≠ 255 + 1 ∧ (∀ e ∈ demoLine.map, e.station ≠ 6) ∧ demoLine.map.length < 12 ∧
    (∀ e ∈ full.map, e.station ≠ 6) ∧ 12 ≤ full.map.length := by decide +kernel

theorem witness_TallyTakenEntryByEntry :
    demo.inAssembly = some demo ∧ ([] : List TallyEntry).length ≤ 12 ∧ (List.replicate 12 (⟨9, 0, 0⟩ : TallyEntry)).length ≤ 12 ∧
    demo.number = 5 ∧ (∀ l, (demo.line l).state ≠ .vacant → (demo.line l).config.code ≠ 9) ∧
    (State.reset.hashTable.getLsbD (hashIndex 100341) = false) := ⟨rfl, by decide +kernel⟩

/-- The demo article's code reaches its line. -/
theorem demo_reaches : demo.Reaches 100341 0 := by unfold State.Reaches; decide +kernel

theorem witness_TallyEntryOfAPeerIsTaken :
    let u := demo
    (1 ≤ 6 ∧ 6 ≤ 30 ∧ 6 ≠ u.number ∧ u.Reaches 100341 0) ∧ (16#8).getLsbD 4 = true ∧ (u.line 0).lead ≠ 0 ∧
    (u.line 0).state = .solo ∧
    ((u.line 0).tallyEntry 6 4 u.clock).aggregate ≠ (u.line 0).aggregate ∧
    ((withLine (fun a => { a with state := .follow, lead := 0, map := [demoEntry] })).line 0).lead = 0 :=
  ⟨⟨by decide, by decide, by decide, demo_reaches⟩, by decide +kernel⟩

theorem witness_CensusOfAPeerAsksForATally :
    demo.inAssembly = some demo ∧ 1 ≤ [(100341 : Code)].length ∧ (List.replicate 12 (9 : Code)).length ≤ 12 ∧
    demo.counters.filtered ≤ 65535 ∧ demo.counters.unknownArticle ≤ 65535 ∧ 6 ≠ demo.number ∧
    demo.hashTable.getLsbD (hashIndex 100341) = true ∧ demo.lineOf 100341 = some 0 ∧ (demo.line 0).reports = true ∧
    demo.lineOf 9 = none := ⟨rfl, by decide +kernel⟩

theorem witness_LineLeavesJoining :
    let s := withLine (fun a => { a with state := .joining, lead := 0 })
    (s.line 0).state = .joining ∧ s.census = .ended 0 ∧
    (∀ i ∈ (s.line 0).config.cells, (s.cell i).firstRest = false ∨ (s.cell i).state = .fault) ∧
    (demo.line 0).state ≠ .joining ∧ ({ s with census := .window 6900000 } : State).census = .window 6900000 ∧
    s.station = .running := by decide +kernel

theorem witness_SilentPeerGoesStaleAndLeavesTheMap :
    let s := withLine (fun a => { a with state := .follow, lead := 6, map := [demoEntry] })
    let t := withLine (fun a => { a with state := .lead, map := [{ demoEntry with stale := true }] })
    s.station = .running ∧ (s.line 0).map = [] ++ demoEntry :: [] ∧ demoEntry.station = 6 ∧ demoEntry.stale = false ∧
    (t.line 0).map = [] ++ { demoEntry with stale := true } :: [] := by decide +kernel

theorem witness_TallyPhaseAsksThenEvaluates :
    (demo.station = .running ∧ ∃ l, (demo.line l).state = .solo) ∧
    (let s := withLine (fun a => { a with state := .joining, lead := 0 });
      s.station = .running ∧ ∀ l, (s.line l).state = .vacant ∨ (s.line l).state = .joining) ∧
    State.reset.station ≠ .running ∧ State.reset.station ≠ .brownout := by decide +kernel

theorem witness_CountTakenMovesTheLead :
    (demo.inAssembly = some demo ∧ demo.Reaches 100341 0) ∧ (5 : Byte).toNat = demo.number ∧ (demo.line 0).state = .solo ∧
    1 ≤ (6 : Byte).toNat ∧ (6 : Byte).toNat ≤ 30 ∧ (6 : Byte).toNat ≠ demo.number ∧
    ((withLine (fun a => { a with state := .joining, lead := 0 })).line 0).state = .joining :=
  ⟨⟨rfl, demo_reaches⟩, by decide +kernel⟩

theorem joining_reaches : (withLine (fun a => { a with state := .joining, lead := 0 })).Reaches 100341 0 := by
  unfold State.Reaches; decide +kernel

theorem witness_FramesThatReachNoLineAreCounted :
    demo.inAssembly = some demo ∧ (0 = 0 ∧ 0 ≠ demo.number) ∧ (31 = 31 ∧ 31 ≠ demo.number) ∧
    (∀ l, (demo.line l).state ≠ .vacant → (demo.line l).config.code ≠ 9) ∧
    State.reset.hashTable.getLsbD (hashIndex 9) = false := ⟨rfl, by decide +kernel⟩

theorem witness_DecisionTableAndReminder :
    let reorder := 20
    let margin := 5
    (0 : Nat) ≤ reorder ∧ 20 ≤ reorder ∧ reorder < 21 ∧ reorder + margin ≤ 25 ∧ 24 < reorder + margin ∧
    ¬ (24 = 0 ∧ 1 = 1) ∧ (0 = 0 ∧ 1 = 1) := by decide

theorem witness_EvaluationAsksForItsDecision :
    let low := withLine (fun a => { a with ownCount := 0 })
    let w : SendFrame := ⟨.alert 100341 true 1 20, .waiting, 0, 0, none⟩
    let t := { low with queue := [w] }
    let u := { low with queue := [{ w with phase := .sending ⟨5, .fault ⟨1, 255⟩⟩ }] }
    ((low.line 0).state = .solo ∧ (low.line 0).holdSince = none ∧ (low.line 0).alert.state ≠ .restocking) ∧
    (t.queue.map (alertOf 100341) = [some ⟨.raised, 1⟩] ∧ w.phase = .waiting) ∧
    (u.queue.map (alertOf 100341) = [some ⟨.raised, 1⟩] ∧ ∀ f ∈ u.queue, f.phase ≠ .waiting) ∧ low.queue = [] ∧
    ((withLine (fun a => { a with holdSince := some 5 })).line 0).holdSince ≠ none := by decide +kernel

/-- The demo record is lawful. -/
theorem demo_alertLawful : (demo.line 0).AlertLawful := by unfold ArticleLine.AlertLawful; decide +kernel

theorem witness_AlertTakenSetsTheRecord :
    (demo.inAssembly = some demo ∧ demo.Reaches 100341 0 ∧ (demo.line 0).AlertLawful) ∧
    ((0 : Byte).toNat = 0 ∧ 31 ≤ (31 : Byte).toNat) ∧ (1 ≤ (30 : Byte).toNat ∧ (30 : Byte).toNat ≤ 30) ∧
    (demo.line 0).alert.state ≠ .restocking ∧ (2 : Byte) ≠ 0 ∧ (2 : Byte) ≠ 1 ∧ 3 < (4 : Byte).toNat ∧ (3 : Byte).toNat ≤ 3 ∧
    ((withLine (fun a => { a with alert := ⟨.restocking, 0, none, false, some 5⟩ })).line 0).alert.state = .restocking :=
  ⟨⟨rfl, demo_reaches, demo_alertLawful⟩, by decide +kernel⟩

theorem witness_ArticleCommandsChangeRecords :
    demo.inAssembly = some demo ∧ demo.station = .running ∧ (Payload.codes [100341, 100341]).wf = true ∧
    (∀ x ∈ [AlertState.raised, .held, .restocking, .clear],
      ((withLine (fun a => { a with alert := ⟨x, 1, none, false, none⟩ })).line 0).alert.state = x) :=
  ⟨rfl, by decide +kernel⟩

theorem witness_AdoptionBringsTheRecordIntoLine :
    (demo.line 0).AlertLawful ∧ alertPaired .clear 1 = false ∧ alertPaired .raised 4 = false ∧ alertPaired .raised 3 = true ∧
    alertPaired .held 1 = true ∧ alertPaired .clear 0 = true ∧ alertPaired .restocking 0 = true ∧
    (demo.line 0).alert.state = .clear := ⟨demo_alertLawful, by decide +kernel⟩

/-- Lawful records of the other three alert states. -/
theorem other_records_lawful :
    ({ demoLine with alert := ⟨.raised, 1, some 5, true, none⟩ } : ArticleLine).AlertLawful ∧
    ({ demoLine with alert := ⟨.held, 3, none, false, none⟩ } : ArticleLine).AlertLawful ∧
    ({ demoLine with alert := ⟨.restocking, 0, none, false, some 5⟩ } : ArticleLine).AlertLawful := by
  unfold ArticleLine.AlertLawful; decide +kernel

theorem witness_LineTimersExpire :
    let s := withLine (fun a => { a with state := .follow, lead := 6, leadSince := some 10, holdSince := some 9 })
    let t := withLine (fun a => { a with state := .follow, lead := 0, claimSince := some 8 })
    let u := withLine (fun a => { a with alert := ⟨.raised, 1, some 7, false, some 6⟩ })
    s.station = .running ∧ (s.line 0).leadSince = some 10 ∧ (s.line 0).holdSince = some 9 ∧ (t.line 0).claimSince = some 8 ∧
    (t.line 0).state = .follow ∧ (t.line 0).lead = 0 ∧ (s.line 0).lead ≠ 0 ∧ (u.line 0).alert.reminderSince = some 7 ∧
    (u.line 0).alert.restockSince = some 6 := by decide +kernel

/-- The demo station at an idle line, in slot `n` of a round. -/
def inSlot (n : Nat) (q : List SendFrame) : State :=
  { demo with queue := q, nextAge := 9, access := ⟨true, 20, 6, .ready, some ⟨n, n * 20⟩⟩ }

theorem witness_CarrierIdleAndRounds :
    demo.station = .running ∧ demo.access.idle = false ∧ (∀ f ∈ demo.queue, f.phase = .waiting) ∧
    demo.access.assembly = .assembling ∧ ({ demo.access with assembly := .waitIdle } : LineAccess).assembly ≠ .assembling ∧
    (inSlot 96 []).access.idle = true ∧ (inSlot 96 []).access.round = some ⟨96, 1920⟩ ∧ State.reset.station ≠ .running ∧
    State.reset.station ≠ .unconfigured := by decide +kernel

theorem witness_BrokenFramesAreAbandonedOrDiscarded :
    demo.inAssembly = some demo ∧ State.reset.inAssembly = none ∧ (0 : Byte) ≠ 0xA5#8 ∧ goodFrame [1, 80, 3] = none ∧
    (80 : Byte).toNat ≤ 80 ∧ 80 < (81 : Byte).toNat ∧ ([1, 2] : List Byte).length < 3 ∧ demo.access.assembly = .assembling ∧
    (inSlot 0 []).access.assembly = .ready ∧ (inSlot 0 []).access.idle = true ∧ State.reset.access.assembly = .waitIdle :=
  ⟨rfl, rfl, by decide +kernel⟩

/-- A waiting COUNT of the demo article without a serial. -/
def demoCount : SendFrame := ⟨.count 100341 false none, .waiting, 3, 0, none⟩

theorem witness_ContentionSlotBeginsAnAttempt :
    let c := inSlot (64 - 32 + 30) [demoCount]
    let f := inSlot 30 [⟨.fault .cellFault (some 3), .waiting, 4, 0, none⟩]
    (c.station = .running ∧ c.access.idle = true ∧ (∀ g ∈ c.queue, g.phase = .waiting) ∧ c.access.round = some ⟨62, 1240⟩) ∧
    (62 % 32 = c.offset ∧ c.queue = [] ++ demoCount :: [] ∧ (c.line 0).state ≠ .vacant ∧ (c.line 0).config.code = 100341 ∧
      ∀ k, (c.line k).state ≠ .vacant → (c.line k).config.code = 100341 → k = 0) ∧
    30 % 32 = f.offset ∧ 61 % 32 ≠ c.offset := by decide +kernel

theorem slot_classes : contentClass demoCount.content = 62 / 32 ∧ contentClass (.fault .cellFault (some 3)) ≠ 30 / 32 ∧
    contentClass (.alert 100341 true 1 20) = 30 / 32 ∧ contentClass .tally = 94 / 32 := by decide +kernel

/-- Queues of one COUNT, waiting or being sent, are within bounds. -/
theorem queue_bounded : (inSlot 62 [demoCount]).QueueBounded ∧
    (inSlot 62 [{ demoCount with phase := .sending ⟨5, .fault ⟨1, 255⟩⟩, attempts := 15 }]).QueueBounded := by
  unfold State.QueueBounded; decide +kernel

theorem witness_FormedFrameHoldsTheStationAsItStands :
    (demo.line 0).state ≠ .vacant ∧ (demo.line 0).config.code = 100341 ∧
    (∀ k, (demo.line k).state ≠ .vacant → (demo.line k).config.code = 100341 → k = 0) ∧ (demo.line 0).alert.urgency ≤ 3 := by
  decide +kernel

theorem witness_FrameRoundTripThroughTheLine :
    lengthAdmitted (.tally (List.replicate 12 ⟨100341, 9, 21⟩)) = true ∧ lengthAdmitted (.tally []) = true ∧
    lengthAdmitted (.fault ⟨5, 3⟩) = true ∧ lengthAdmitted (.command ⟨5, 18, 0, .cell 3⟩) = true := by decide +kernel

theorem witness_AttemptEndsInCollisionOrSuccess :
    let frame : Frame := ⟨5, .fault ⟨5, 3⟩⟩
    let sent : SendFrame := { demoCount with phase := .sending frame }
    let s := { demo with queue := [sent, { demoCount with age := 5 }], nextAge := 9 }
    (∀ f ∈ demo.queue, f.phase = .waiting) ∧ s.station = .running ∧ s.queue = [] ++ sent :: [{ demoCount with age := 5 }] ∧
    sent.phase ≠ .waiting ∧ sent.attempts < 15 ∧ sameKind demoCount.content sent.content = true ∧
    sent.phase = .sending frame ∧ lengthAdmitted frame.body = true ∧ bodyLength frame.body ≤ 80 ∧
    ({ sent with attempts := 15 } : SendFrame).attempts = 15 ∧ (frameCharacters frame).getLast? ≠ none := by decide +kernel

/-- A FOLLOW line without a lead, whose claim timer a lost COUNT starts; and a code that no line holds. -/
theorem witness_countLost :
    let s := withLine (fun a => { a with state := .follow, lead := 0 })
    (s.line 0).state = .follow ∧ (s.line 0).lead = 0 ∧ (s.line 0).claimSince = none ∧ s.queue = [] ∧
    (∀ k, (s.line k).state ≠ .vacant → (s.line k).config.code = 100341 → k = 0) ∧
    ∀ l, (s.line l).state = .vacant ∨ (s.line l).config.code ≠ 7 := by decide +kernel

theorem witness_CountRequestsMerge :
    let held : DeparturePart := ⟨2, 1250, 60, 7⟩
    let f : SendFrame := ⟨.count 100341 true (some held), .waiting, 3, 1, some 9⟩
    let s := { demo with queue := [f], nextAge := 4 }
    s.queue = [] ++ f :: [] ∧ f.phase = .waiting ∧ held.unitWeight = 1250 ∧ held.tolerance = 60 ∧
    (∀ g ∈ demo.queue, g.phase = .waiting → sameKind g.content (.count 100341 false none) = false) ∧ demo.queue.length < 4 := by
  decide +kernel

theorem witness_AlertAndTallyRequestsMergeOthersDoNot :
    let t : SendFrame := ⟨.tally, .waiting, 3, 0, none⟩
    let a : SendFrame := ⟨.alert 100341 true 1 20, .waiting, 4, 2, none⟩
    let c : SendFrame := { demoCount with phase := .sending ⟨5, .fault ⟨1, 255⟩⟩, age := 5 }
    let s := { demo with queue := [t, a, c], nextAge := 6 }
    (∃ f ∈ s.queue, f.phase = .waiting ∧ f.content = .tally) ∧ s.queue = [t] ++ a :: [c] ∧ a.phase = .waiting ∧
    (∀ g ∈ [t] ++ [c], g.phase = .waiting → sameKind g.content a.content = false) ∧ c ∈ s.queue ∧ c.phase ≠ .waiting := by
  decide +kernel

theorem witness_FullQueueEvictsOrRefuses :
    let t : SendFrame := ⟨.tally, .waiting, 3, 0, none⟩
    let s := { demo with queue := [demoCount, { t with age := 4 }, { demoCount with age := 5, content := .count 9 true none },
      { demoCount with age := 6, content := .count 8 true none }], nextAge := 9 }
    s.queue.length = 4 ∧ demo.queue.length < 4 ∧ (∃ g ∈ s.queue, g.phase = .waiting ∧ contentClass g.content = 2) ∧
    (∀ g ∈ s.queue, g.phase = .waiting → contentClass g.content ≤ 2) ∧ contentClass (.alert 100341 true 1 20) < 2 ∧
    s.queue[1]? = some { t with age := 4 } ∧ contentClass (.census [9]) = 2 ∧
    (∃ g ∈ s.queue, g.phase = .waiting ∧ contentClass g.content ≠ 0) := by decide +kernel

theorem witness_RecountAndZeroActOnACellInRest :
    demo.inAssembly = some demo ∧ demo.station = .running ∧ (Payload.cell 3).wf = true ∧ (5 : Byte).toNat = demo.number ∧
    (∀ l : Fin 12, (demo.line l).state ≠ .joining) ∧ (3 : Byte).toNat = (3 : Fin 12).val ∧ (demo.cell 3).state = .rest ∧
    (demo.cell 3).line = some 0 ∧ (∀ i : Fin 12, (12 : Byte).toNat = i.val → (demo.cell i).state = .unused) ∧
    (demo.cell 2).state = .unused ∧ ((withCell (fun c => { c with state := .motion })).cell 3).state ≠ .rest :=
  ⟨rfl, by decide +kernel⟩

theorem witness_QueryAndRestartAreAnswered :
    demo.inAssembly = some demo ∧ demo.station = .running ∧ (Payload.codes []).wf = true ∧ (5 : Byte).toNat = demo.number ∧
    (∀ l : Fin 12, (demo.line l).state ≠ .joining) ∧ demo.queue.length < 4 ∧ demo.restartPending = none ∧
    ({ demo with restartPending := some 3 } : State).restartPending = some 3 ∧
    (∀ l : Fin 12, (demo.line l).serialGaps ≤ 255) := ⟨rfl, by decide +kernel⟩

/-- The demo counters are within their ranges. -/
theorem demo_counters : demo.counters.Bounded := by unfold Counters.Bounded; decide +kernel

theorem witness_CommandsNotReadyOrNotForThisStation :
    let j := withLine (fun a => { a with state := .joining, lead := 0 })
    let u := { State.reset with station := .unconfigured, access := ⟨false, 0, 0, .assembling, none⟩ }
    j.inAssembly = some j ∧ u.inAssembly = some u ∧ (∃ l : Fin 12, (j.line l).state = .joining) ∧ (5 : Byte).toNat = j.number ∧
    commandOf 4 = none ∧ (6 : Byte).toNat ≠ demo.number ∧ (0 : Byte).toNat ≠ demo.number ∧ u.station = .unconfigured ∧
    (Payload.cell 3).wf = true := ⟨rfl, rfl, by decide +kernel⟩

theorem witness_KeyPressesAskForCommands :
    demo.station = .running ∧ demo.key.press = none ∧ demo.key.awaitOpen = false ∧
    ({ demo with key := ⟨true, 7000000, none⟩ } : State).key.awaitOpen = true ∧ State.reset.station ≠ .running ∧
    (let s := { demo with key := ⟨false, 6900001, some ⟨6900001, false⟩⟩ };
      s.key.press = some ⟨6900001, false⟩ ∧ max s.clock (s.key.readFrom + 2000) < 6900001 + 100000 ∧
      6900000 + 100000 ≤ max s.clock (s.key.readFrom + 2000)) ∧
    ({ demo with key := ⟨false, 0, some ⟨6000000, true⟩⟩ } : State).key.press = some ⟨6000000, true⟩ := by decide +kernel

theorem witness_LampShowsTheFirstRowThatHolds :
    demo.station = .running ∧ (demo.cell 3).state ≠ .unused ∧ (demo.cell 3).line = some 0 ∧ (demo.line 0).alert.urgency ≤ 3 ∧
    ((withCell (fun c => { c with balance := 1 })).cell 3).balance ≠ 0 ∧
    ((withCell (fun c => { c with strays := [demoStray] })).cell 3).strays ≠ [] ∧ (demo.cell 2).state = .unused ∧
    (∀ k ∈ [1, 2, 3], ((withLine (fun a => { a with alert := ⟨.held, k, none, false, none⟩ })).line 0).alert.urgency = k) ∧
    State.reset.station = .loading := by decide +kernel

theorem witness_ThirdSilentAddressingEndsTheLoad :
    State.reset.station = .loading ∧ State.reset.loader.abandoned = false ∧
    (let s := { State.reset with loader := ⟨2, 9, false⟩ };
      9 = s.loader.position ∧ 3 ≤ s.loader.noAnswers + 1 ∧ 8 ≠ s.loader.position ∧ (1 : Nat) < 3) ∧ demo.station ≠ .loading ∧
    ({ State.reset with loader := ⟨0, 0, true⟩ } : State).loader.abandoned = true := by decide +kernel

/-- An image of station 5 with one article and one cell, and its check. -/
def demoImage : List Byte :=
  let image : List Byte := [0x2E, 5, 6, 0, 0, 0, 0, 0, 0, 150, 15, 5, 5, 0x00, 0x01, 0x87, 0xF5, 0x04, 0xE2, 0, 60, 0, 20, 0, 5, 2, 30,
    0, 0, 0, 0x30, 0, 0, 0, 0xFF, 0xFF, 0x09, 0xCE]
  image ++ bytes16 (crc16 image)

/-- The demo image passes every check, and no value of it is clamped. -/
theorem test_image_passes :
    (match checkImage (Memory.ofBytes demoImage) with
      | .passed i => i.number == 5 && i.articles.length == 1 && i.cells.length == 1 && !imageClampedBy i
      | .failed _ _ => false) = true := by decide +kernel

theorem witness_StructuralChecksOfTheRecords :
    let m := Memory.ofBytes demoImage
    Memory.u8 m 0 = 0x2E ∧ Memory.u8 m 13 / 16 ≤ 11 ∧ Memory.u8 m 13 % 16 ≤ 11 ∧ imageCrcAgrees m 1 1 = true ∧
    1 ≤ (readImage m 1 1).number ∧ (readImage m 1 1).number ≤ 30 ∧ structureHolds (readImage m 1 1) = true ∧
    structureHolds { readImage m 1 1 with cells := [⟨12, 0, 0, 1, 0⟩] } = false := by decide +kernel

theorem witness_EarlierChecksDecideTheFault :
    let m := Memory.ofBytes demoImage
    Memory.u8 m 0 = 0x2E ∧ Memory.u8 [] 0 ≠ 0x2E ∧ 11 < Memory.u8 [] 13 / 16 ∧
    (crc16 (Memory.bytes m 0 38)).toNat = 256 * Memory.u8 m 38 + Memory.u8 m 39 ∧
    (crc16 (Memory.bytes [] 0 38)).toNat ≠ 256 * 255 + 255 ∧ Memory.u8 (Memory.ofBytes [0x2E, 0]) 1 = 0 ∧
    30 < Memory.u8 (Memory.ofBytes [0x2E, 31]) 1 := by decide +kernel

theorem witness_FailedLoadIsUnconfigured :
    State.reset.station = .loading ∧ State.reset.loader.abandoned = false ∧
    checkImage (Memory.ofBytes []) = .failed .imageStructure 0 ∧
    (let s := { State.reset with station := .unconfigured, loadFault := some .imageStructure };
      s.station = .unconfigured ∧ s.loadFault = some .imageStructure) ∧ demo.station ≠ .unconfigured := by decide +kernel

theorem witness_LoadEndsInRunning :
    State.reset.station = .loading ∧ State.reset.loader.abandoned = false ∧
    ∃ i, checkImage (Memory.ofBytes demoImage) = .passed i ∧ i.articles[0]? ≠ none ∧ i.articles[1]? = none ∧
      ∃ c ∈ i.cells, c.cell = 3 ∧ c.article = 0 :=
  ⟨rfl, rfl, readImage (Memory.ofBytes demoImage) 1 1, by decide +kernel⟩

theorem witness_SupplySamplesDecide :
    let f : SendFrame := { demoCount with content := .tally, phase := .sending ⟨5, .fault ⟨1, 255⟩⟩, attempts := 15 }
    let s := { demo with supply := ⟨1, 0⟩, queue := [f], nextAge := 9 }
    s.station = .running ∧ s.supply.lowRun = 1 ∧ demo.supply.lowRun ≠ 1 ∧ (∀ g ∈ demo.queue, g.phase = .waiting) ∧
    s.queue = [] ++ f :: [] ∧ f.phase ≠ .waiting ∧ f.attempts = 15 ∧ ({ f with attempts := 14 } : SendFrame).attempts < 15 ∧
    sameKind .tally f.content = true ∧ sameKind demoCount.content f.content = false ∧
    (∀ x ∈ [StationState.unconfigured, .off, .brownout, .loading], ({ demo with station := x, supply := ⟨0, 1⟩ } : State).station = x) ∧
    ({ State.reset with loader := ⟨0, 0, true⟩ } : State).loader.abandoned = true := by decide +kernel

/-- A COUNT being sent for the fifteenth time, with a younger one of its article waiting, at the second low sample or a collision. -/
theorem witness_cutFrame :
    let f : SendFrame := { demoCount with phase := .sending ⟨5, .fault ⟨1, 255⟩⟩, attempts := 14 }
    let g : SendFrame := { demoCount with age := 5 }
    let s := { demo with supply := ⟨1, 0⟩, queue := [f, g], nextAge := 9 }
    s.station = .running ∧ s.supply.lowRun = 1 ∧ s.QueueBounded ∧ s.queue = [] ++ f :: ([] ++ g :: []) ∧ f.phase ≠ .waiting ∧
    f.attempts < 15 ∧ sameKind g.content f.content = true := by
  unfold State.QueueBounded; decide +kernel

/-- R110 and R120: a frame cut at BROWNOUT counts as bad here, once, and not as a collision; a frame being received is not counted. -/
theorem test_cutFrame :
    let sent : SendFrame := { demoCount with phase := .sending ⟨5, .fault ⟨1, 255⟩⟩ }
    let low (queue : List SendFrame) : State := after (.supplySample true) { demo with supply := ⟨1, 0⟩, queue := queue, nextAge := 9 }
    (low [sent]).counters = { demo.counters with badFrames := demo.counters.badFrames + 1 } ∧
    (low []).counters = demo.counters := by decide +kernel

theorem witness_StepRunsFrontCommand :
    ({ demo with pending := [.powerOn, .lineIdle] } : State).pending = .powerOn :: [.lineIdle] ∧ demo.pending = [] ∧
    demo.due = [.tallyPhase] ∧ State.reset.due = [] ∧ ({ demo with tallyAt := 7000001 } : State).due = [] := by decide +kernel

theorem witness_EventEndsInWindowOrRestart :
    let frame : Frame := ⟨5, .status (demo.statusBody .restart .done)⟩
    let f : SendFrame := ⟨.status (demo.statusBody .restart .done), .sending frame, 3, 0, none⟩
    let s := { demo with queue := [f], nextAge := 9, restartPending := some 3 }
    demo.restartPending = none ∧ ({ demo with census := .queued } : State).census = .queued ∧ demo.census ≠ .queued ∧
    (∃ g ∈ s.queue, s.restartPending = some g.age) ∧ s.station = .running ∧ s.queue = [] ++ f :: [] ∧
    f.phase = .sending frame ∧ ({ demo with restartPending := some 3 } : State).queue = [] := by decide +kernel

theorem witness_StationStateChangesByItsTable :
    (Instr.powerOn).wf = true ∧ demo.restartPending = none ∧ (after .powerOn demo).station ≠ demo.station ∧
    (after .supplyFailure demo).station ≠ demo.station ∧
    (after (.supplySample true) { demo with supply := ⟨1, 0⟩ }).station = .brownout ∧
    (after (.supplySample false) { demo with station := .brownout, supply := ⟨0, 1⟩ }).station = .running ∧
    (after (.imageLoadEnd demoImage) State.reset).station = .running ∧
    (after (.imageLoadEnd []) State.reset).station = .unconfigured := by decide +kernel

theorem blank_lawful (n : Nat) : ArticleLine.blank.Lawful n := by simp [ArticleLine.Lawful, ArticleLine.blank, Config.mapMax]

theorem demoLine_lawful : demoLine.Lawful 5 := by simp [ArticleLine.Lawful, demoLine, ArticleLine.blank, Config.mapMax]

theorem demo_line (l : Fin 12) : demo.line l = if l = 0 then demoLine else ArticleLine.blank := by fin_cases l <;> rfl

/-- The laws of the invariants hold of the demo station. -/
theorem witness_LinesStayLawful : demo.OwnCountsAgree ∧ demo.LinesLawful ∧ demo.AlertsLawful ∧ demo.HashHolds := by
  refine ⟨?_, ⟨fun l => ?_, by decide +kernel, by decide +kernel⟩, ?_, ?_⟩
  · unfold State.OwnCountsAgree; decide +kernel
  · rw [demo_line]
    split
    · exact demoLine_lawful
    · exact blank_lawful _
  · unfold State.AlertsLawful ArticleLine.AlertLawful; decide +kernel
  · unfold State.HashHolds; decide +kernel

theorem witness_QueueAndLogStayBounded : (inSlot 62 [demoCount]).QueueBounded ∧ (inSlot 62 [demoCount]).QueueMerged ∧
    ({ demo with log := [demoDeparture] } : State).LogBounded := by
  unfold State.QueueBounded State.QueueMerged State.LogBounded; decide +kernel

theorem witness_CellsStayBounded : demo.CellsBounded ∧ demo.UnusedEmpty := by
  unfold State.CellsBounded State.UnusedEmpty CellRecord.Bounded; decide +kernel

theorem witness_RestartAndRangesAreKept :
    demo.access.lastSender ≤ 31 ∧ demo.supply.lowRun ≤ 2 ∧ demo.supply.goodRun ≤ 2 ∧ Memory.wf (Memory.ofBytes demoImage) = true ∧
    demo.restartPending = none ∧ ∃ t, step demo = .next t :=
  ⟨by decide, by decide, by decide, by decide +kernel, rfl, demo.tick, rfl⟩

end Sys2Proof.Tests
end

section
/-! The samples that enter the window, and the settled test on a marked window (chapter 1). -/

namespace Sys2Proof.Machine

/-- The calibrated weight is the only rounded quotient. -/
theorem calibrate_eq_of_rounded {code : Conversion} {z : BitVec 24} {g : Nat} {w : Int}
    (hw : Rounded ((code.toInt - z.toInt) * g) 65536 w) : calibrate code z g = w :=
  ((roundDiv_rounded _ 65536 (by decide)).2 w hw).symm

/-- A code measures the load exactly where it is neither extreme. -/
theorem inRange_iff (code : Conversion) :
    inRange code = true ↔ code.toInt ≠ -8388608 ∧ code.toInt ≠ 8388607 := by
  simp [inRange]

/-- R2: the lowest code enters at the lower limit, marked. -/
theorem sampleOf_lowest {code : Conversion} (z : BitVec 24) (g : Nat) (h : code.toInt = -8388608) :
    sampleOf code z g = ⟨Config.weightMin, true⟩ := by
  simp [sampleOf, inRange_iff, h]

/-- R2: the highest code enters at the upper limit, marked. -/
theorem sampleOf_highest {code : Conversion} (z : BitVec 24) (g : Nat) (h : code.toInt = 8388607) :
    sampleOf code z g = ⟨Config.weightMax, true⟩ := by
  simp [sampleOf, inRange_iff, h]

/-- R3, R4: an in-range code enters as its rounded weight, clamped, with the mark where the clamp changes it. -/
theorem sampleOf_of_rounded {code : Conversion} {z : BitVec 24} {g : Nat} {w : Int} (hc : inRange code = true)
    (hw : Rounded ((code.toInt - z.toInt) * g) 65536 w) :
    sampleOf code z g =
      ⟨clampInt Config.weightMin Config.weightMax w, clampInt Config.weightMin Config.weightMax w != w⟩ := by
  simp only [sampleOf, hc, if_true, calibrate_eq_of_rounded hw]

/-- The clamp gives the lower bound below it. -/
theorem clampInt_of_lt {lo hi v : Int} (h : v < lo) : clampInt lo hi v = lo := by
  simp [clampInt, h]

/-- The clamp gives the upper bound above it. -/
theorem clampInt_of_gt {lo hi v : Int} (hb : lo ≤ hi) (h : hi < v) : clampInt lo hi v = hi := by
  rw [clampInt_eq lo hi v hb]; omega

/-- The clamp changes nothing within its bounds. -/
theorem clampInt_of_mem {lo hi v : Int} (hlo : lo ≤ v) (hhi : v ≤ hi) : clampInt lo hi v = v := by
  rw [clampInt_eq lo hi v (hlo.trans hhi)]; omega

/-- R7: one marked weight keeps a window from being settled. -/
theorem settled_eq_false_of_saturated (band : Nat) {window : List Sample} {x : Sample} (hx : x ∈ window)
    (hs : x.saturated = true) : settled band window = false := by
  have marked : window.all (fun y => !y.saturated) = false := List.all_eq_false.mpr ⟨x, hx, by simp [hs]⟩
  simp only [settled, marked, Bool.and_false, Bool.false_and]

end Sys2Proof.Machine

open Sys2Proof Sys2Proof.Machine

/-- Settles O1: the given rounded weight is the calibrated one, and the clamp's three cases are the clauses. -/
theorem conversionCodeGivesWindowWeight : Obligations.ConversionCodeGivesWindowWeight := by
  intro code z g
  refine ⟨sampleOf_lowest z g, sampleOf_highest z g, fun hlow hhigh w hw => ?_,
    fun band window ⟨_, hx, hs⟩ => settled_eq_false_of_saturated band hx hs⟩
  have entry := sampleOf_of_rounded ((inRange_iff code).mpr ⟨hlow, hhigh⟩) hw
  simp only [Config.weightMin, Config.weightMax] at entry
  refine ⟨fun below => ?_, fun above => ?_, fun lower upper => ?_⟩
  · rw [entry, clampInt_of_lt below, bne_iff_ne.mpr below.ne']
  · rw [entry, clampInt_of_gt (by decide) above, bne_iff_ne.mpr above.ne]
  · rw [entry, clampInt_of_mem lower upper, bne_self_eq_false]

end

section
/-! The own count test: its rounded unit number, its allowance, and its mirror image for a falling step (R26). -/

namespace Sys2Proof.Machine

/-- Rounding a quotient gives the number that the convention of 00_scope.md fixes. -/
theorem roundDiv_eq_iff {n d k : Int} (hd : 0 < d) : roundDiv n d = k ↔ Rounded n d k :=
  ⟨fun h => h ▸ (roundDiv_rounded n d hd).1, fun h => ((roundDiv_rounded n d hd).2 k h).symm⟩

/-- A half rounds away from zero on both sides, so the convention is symmetric. -/
theorem Rounded.neg {n d k : Int} (h : Rounded n d k) : Rounded (-n) d (-k) := by
  have residual : |-n - -k * d| = |n - k * d| := by rw [← abs_neg, show -(-n - -k * d) = n - k * d by ring]
  rw [Rounded, residual, abs_neg, neg_mul, abs_neg]
  exact h

/-- A quotient halfway between two whole numbers rounds to the one farther from zero. -/
theorem rounded_of_halfway {n d k : Int} (hd : 0 < d) (hk : 0 ≤ k) (h : 2 * n = (2 * k + 1) * d) : Rounded n d (k + 1) := by
  have product : 0 ≤ k * d := by positivity
  have sum : 2 * n = 2 * (k * d) + d := by linarith
  rw [Rounded, add_one_mul, abs_of_nonpos (by omega : n - (k * d + d) ≤ 0), abs_of_nonneg (by omega : 0 ≤ n),
    abs_of_nonneg (by omega : 0 ≤ k * d + d)]
  omega

theorem roundDiv_neg (n : Int) {d : Int} (hd : 0 < d) : roundDiv (-n) d = -roundDiv n d :=
  (roundDiv_eq_iff hd).mpr (roundDiv_rounded n d hd).1.neg

/-- The test, read with absolute values. -/
theorem unitNumber_eq (step : Int) (u t : Nat) :
    unitNumber step u t =
      if roundDiv step u ≠ 0 ∧ |roundDiv step u| ≤ 255 ∧
          |step - roundDiv step u * u| ≤ t + (t : Int) * (|roundDiv step u| - 1) / 4
      then some (roundDiv step u) else none := by
  simp only [unitNumber, allowance, magnitude_abs, Config.stepMax, Nat.cast_ofNat]
  by_cases excluded : roundDiv step u = 0 ∨ 255 < |roundDiv step u|
  · rw [if_pos excluded, if_neg (by omega)]
  · obtain ⟨nonzero, bounded⟩ := not_or.mp excluded
    rw [if_neg excluded]
    simp only [ne_eq, nonzero, not_lt.mp bounded, not_false_eq_true, true_and]

theorem unitNumber_eq_some_iff {step n : Int} {u t : Nat} (hu : 0 < u) :
    unitNumber step u t = some n ↔
      Rounded step u n ∧ n ≠ 0 ∧ |n| ≤ 255 ∧ |step - n * u| ≤ t + (t : Int) * (|n| - 1) / 4 := by
  rw [unitNumber_eq, ← roundDiv_eq_iff (by exact_mod_cast hu : (0 : Int) < u)]
  simp only [Option.ite_none_right_eq_some, Option.some.injEq]
  constructor
  · rintro ⟨passes, rfl⟩
    exact ⟨rfl, passes⟩
  · rintro ⟨rfl, passes⟩
    exact ⟨passes, rfl⟩

/-- R26 makes no difference between a pick and a return. -/
theorem unitNumber_neg (step : Int) {u : Nat} (t : Nat) (hu : 0 < u) :
    unitNumber (-step) u t = (unitNumber step u t).map Neg.neg := by
  have residual (k : Int) : |-step - -k * u| = |step - k * u| := by
    rw [← abs_neg, show -(-step - -k * u) = step - k * (u : Int) by ring]
  simp only [unitNumber_eq, roundDiv_neg step (by exact_mod_cast hu : (0 : Int) < u), neg_ne_zero, abs_neg, residual]
  split <;> rfl

/-- Half a unit rounds to one, whose allowance is the bare tolerance. -/
theorem unitNumber_of_halfUnit {step : Int} {u t : Nat} (hu : 0 < u) (ht : 4 * t ≤ u) (h : 2 * step = u) :
    unitNumber step u t = none := by
  have one : roundDiv step u = 1 :=
    (roundDiv_eq_iff (by omega)).mpr (rounded_of_halfway (k := 0) (by omega) le_rfl (by omega))
  have residual : (t : Int) < |step - 1 * u| := by rw [abs_of_neg] <;> omega
  rw [unitNumber_eq, one, if_neg]
  rintro ⟨-, -, within⟩
  norm_num at within residual
  omega

/-- One and a half units round to two, whose allowance is five quarters of the tolerance. -/
theorem unitNumber_of_oneAndHalf {step : Int} {u t : Nat} (hu : 0 < u) (h : 2 * step = 3 * u) :
    unitNumber step u t = if (u : Int) ≤ 2 * (t + t / 4) then some 2 else none := by
  have two : roundDiv step u = 2 :=
    (roundDiv_eq_iff (by omega)).mpr (rounded_of_halfway (k := 1) (by omega) (by omega) (by omega))
  have residual : |step - 2 * u| = 2 * u - step := by rw [abs_of_neg] <;> omega
  have within : 2 * (u : Int) - step ≤ t + t / 4 ↔ (u : Int) ≤ 2 * (t + t / 4) := by omega
  rw [unitNumber_eq, two, residual]
  norm_num [within]

end Sys2Proof.Machine

open Sys2Proof Sys2Proof.Machine

/-- Settles O4: the falling boundary cases are the mirror images of the rising ones. -/
theorem ownCountTestFindsUnitNumber : Obligations.OwnCountTestFindsUnitNumber := by
  intro step u t hu
  refine ⟨fun n => unitNumber_eq_some_iff hu, fun ht half => ?_, fun h => ?_, fun h => ?_⟩
  · rcases abs_choice step with rising | falling
    · exact unitNumber_of_halfUnit hu ht (rising ▸ half)
    · have mirror := unitNumber_neg (-step) t hu
      rwa [neg_neg, unitNumber_of_halfUnit hu ht (falling.symm ▸ half : 2 * -step = u)] at mirror
  · rw [unitNumber_of_oneAndHalf hu h]
    simp
  · have mirror := unitNumber_neg (-step) t hu
    rw [neg_neg, unitNumber_of_oneAndHalf hu (by omega : 2 * -step = 3 * u)] at mirror
    rw [mirror]
    split <;> simp <;> omega

end

section
/-! What the evaluator makes of an evaluation instant behind the first rest: drift, or the test sequence (R22, R23). -/

namespace Sys2Proof.Machine

variable {s : State} {i : Fin 12} {m : Int}

/-- R22: the outcome of a step below the event threshold. -/
theorem judge_of_drift (hf : (s.cell i).firstRest = false) (h : |m - (s.cell i).baseline| < s.eventThreshold) :
    s.judge i m = s.setCell i { s.cell i with baseline := m } := by
  rw [← magnitude_abs] at h
  simp only [State.judge, hf, h, Bool.false_eq_true, if_false, if_true, State.rebase]

/-- R23: a step of at least the event threshold is put to the tests. -/
theorem judge_of_event (hf : (s.cell i).firstRest = false) (h : s.eventThreshold ≤ |m - (s.cell i).baseline|) :
    s.judge i m = s.testSequence i m (m - (s.cell i).baseline) := by
  rw [← magnitude_abs, ← not_lt] at h
  simp only [State.judge, hf, h, Bool.false_eq_true, if_false]

/-- R13: a cell in REST with a settled window is an evaluation instant from the event threshold on. -/
theorem testWindow_of_rest (hr : (s.cell i).state = .rest) (hw : settled s.settleBand (s.cell i).window = true) :
    s.testWindow i =
      if s.eventThreshold ≤ |windowMean (s.cell i).window - (s.cell i).baseline|
      then s.judge i (windowMean (s.cell i).window) else s := by
  simp only [State.testWindow, hr, hw, if_true, magnitude_abs]

end Sys2Proof.Machine

open Sys2Proof Sys2Proof.Machine

/-- Settles O5: drift is decided before the test sequence, and REST hands over a large difference only. -/
theorem driftMovesTheBaselineAlone : Obligations.DriftMovesTheBaselineAlone := by
  intro s i m small
  refine ⟨fun hf => judge_of_drift hf small, fun hr hw hm => ?_⟩
  rw [testWindow_of_rest hr hw, hm, if_neg (not_le.mpr small)]

end

section
/-! The test sequence (R23): the balance reversal test, and what each outcome does to the cell's balance. -/

namespace Sys2Proof.Machine

variable {s : State} {i : Fin 12} {m step : Int}

/-- R24, with absolute values. -/
theorem reversalPasses_iff {c : CellRecord} {tolerance : Nat} :
    reversalPasses c step tolerance = true ↔ c.balance ≠ 0 ∧ |step + c.balance| ≤ tolerance := by
  simp only [reversalPasses, magnitude_abs, Bool.and_eq_true, bne_iff_ne, decide_eq_true_eq]

theorem reversalPasses_eq_false_iff {c : CellRecord} {tolerance : Nat} :
    reversalPasses c step tolerance = false ↔ ¬ (c.balance ≠ 0 ∧ |step + c.balance| ≤ tolerance) := by
  rw [← reversalPasses_iff, Bool.not_eq_true]

theorem testSequence_of_reversal (h : reversalPasses (s.cell i) step (s.configOfCell i).tolerance = true) :
    s.testSequence i m step = s.reverseBalance i m := by
  simp only [State.testSequence, h, if_true]

section

variable (h : reversalPasses (s.cell i) step (s.configOfCell i).tolerance = false)
include h

theorem testSequence_of_stray {x : StrayRecord} (hx : strayToRemove step (s.cell i).strays = some x) :
    s.testSequence i m step = s.removeStray i m step x := by
  simp only [State.testSequence, h, hx, Bool.false_eq_true, if_false]

variable (hx : strayToRemove step (s.cell i).strays = none)
include hx

theorem testSequence_of_unitNumber {n : Int}
    (hn : unitNumber step (s.configOfCell i).unitWeight (s.configOfCell i).tolerance = some n) :
    s.testSequence i m step = if n < 0 then s.pick i m n else s.takeReturn i m n := by
  simp only [State.testSequence, h, hx, hn, Bool.false_eq_true, if_false]

variable (hn : unitNumber step (s.configOfCell i).unitWeight (s.configOfCell i).tolerance = none)
include hn

theorem testSequence_of_departure {e : Departure} (he : s.departureToPlace i step = some e) :
    s.testSequence i m step = s.placeStray i m step e := by
  simp only [State.testSequence, h, hx, hn, he, Bool.false_eq_true, if_false]

theorem testSequence_of_doubt (he : s.departureToPlace i step = none) :
    s.testSequence i m step = s.doubt i m step := by
  simp only [State.testSequence, h, hx, hn, he, Bool.false_eq_true, if_false]

end

/-- R23: the first test that passes behind a failed balance reversal test decides the outcome, and doubt is left where none does. -/
theorem testSequence_cases (m : Int) (h : reversalPasses (s.cell i) step (s.configOfCell i).tolerance = false) :
    (∃ x, strayToRemove step (s.cell i).strays = some x ∧ s.testSequence i m step = s.removeStray i m step x) ∨
    strayToRemove step (s.cell i).strays = none ∧
      ((∃ n, unitNumber step (s.configOfCell i).unitWeight (s.configOfCell i).tolerance = some n ∧
          s.testSequence i m step = if n < 0 then s.pick i m n else s.takeReturn i m n) ∨
        unitNumber step (s.configOfCell i).unitWeight (s.configOfCell i).tolerance = none ∧
          ((∃ e, s.departureToPlace i step = some e ∧ s.testSequence i m step = s.placeStray i m step e) ∨
            s.departureToPlace i step = none ∧ s.testSequence i m step = s.doubt i m step)) := by
  cases hx : strayToRemove step (s.cell i).strays with
  | some x => exact .inl ⟨x, rfl, testSequence_of_stray h hx⟩
  | none =>
    refine .inr ⟨rfl, ?_⟩
    cases hn : unitNumber step (s.configOfCell i).unitWeight (s.configOfCell i).tolerance with
    | some n => exact .inl ⟨n, rfl, testSequence_of_unitNumber h hx hn⟩
    | none =>
      refine .inr ⟨rfl, ?_⟩
      cases he : s.departureToPlace i step with
      | some e => exact .inl ⟨e, rfl, testSequence_of_departure h hx hn he⟩
      | none => exact .inr ⟨rfl, testSequence_of_doubt h hx hn he⟩

/-! ### The balance behind each outcome -/

@[simp] theorem removeStray_balance (x : StrayRecord) : ((s.removeStray i m step x).cell i).balance = (s.cell i).balance := by
  simp [State.removeStray]

@[simp] theorem countUnits_balance (n : Int) : ((s.countUnits i m n).cell i).balance = (s.cell i).balance := by
  simp [State.countUnits]

@[simp] theorem pick_cell (n : Int) (j : Fin 12) : (s.pick i m n).cell j = (s.countUnits i m n).cell j := by
  have joined : ((s.countUnits i m n).logJoin (s.ownDeparture i (magnitude n).toNat)).cell j = (s.countUnits i m n).cell j :=
    cell_congr (logJoin_cells _ _) j
  simp only [State.pick, requestCountOfCell_cell]
  exact joined

@[simp] theorem takeReturn_cell (n : Int) (j : Fin 12) : (s.takeReturn i m n).cell j = (s.countUnits i m n).cell j := by
  simp only [State.takeReturn]
  split
  · rfl
  · exact requestCountOfCell_cell _ _ _ _

@[simp] theorem placeStray_balance (e : Departure) : ((s.placeStray i m step e).cell i).balance = (s.cell i).balance := by
  rw [State.placeStray, request_cell, cell_congr (consumeUnit_cells _ _), cell_setCell_same]

@[simp] theorem doubt_balance :
    ((s.doubt i m step).cell i).balance = max (-300000) (min 300000 ((s.cell i).balance + step)) := by
  simp only [State.doubt, cell_setCell_same, Config.balanceMax]
  exact clampInt_eq _ _ _ (by decide)

/-- Only doubt moves a balance that the step does not reverse (R31). -/
theorem testSequence_balance (h : reversalPasses (s.cell i) step (s.configOfCell i).tolerance = false) :
    ((s.testSequence i m step).cell i).balance = (s.cell i).balance ∨
      ((s.testSequence i m step).cell i).balance = max (-300000) (min 300000 ((s.cell i).balance + step)) := by
  obtain ⟨x, -, removal⟩ | ⟨-, ⟨n, -, counted⟩ | ⟨-, ⟨e, -, placement⟩ | ⟨-, doubt⟩⟩⟩ := testSequence_cases m h
  · exact .inl (by rw [removal, removeStray_balance])
  · rw [counted]
    split
    · exact .inl (by rw [pick_cell, countUnits_balance])
    · exact .inl (by rw [takeReturn_cell, countUnits_balance])
  · exact .inl (by rw [placement, placeStray_balance])
  · exact .inr (by rw [doubt, doubt_balance])

end Sys2Proof.Machine

open Sys2Proof Sys2Proof.Machine

/-- Settles O6: the balance reversal test comes first, and behind its failure no outcome but doubt touches the balance. -/
theorem balanceReversalTakesTheWholeBalance : Obligations.BalanceReversalTakesTheWholeBalance := by
  intro s i m c step t hf event
  rw [judge_of_event hf event]
  refine ⟨fun nonzero within => ?_, fun fails => ?_⟩
  · exact testSequence_of_reversal (reversalPasses_iff.mpr ⟨nonzero, within⟩)
  · exact testSequence_balance (reversalPasses_eq_false_iff.mpr fails)

end

section
/-! Stray removal: the search from the young end, and the list without the stray it finds (R25). -/

namespace Sys2Proof.Machine

variable {step : Int} {older younger : List StrayRecord} {x : StrayRecord}

/-- R25, with absolute values. -/
theorem strayFits_iff : strayFits step x = true ↔ |-step - x.unitWeight| ≤ x.tolerance := by
  simp only [strayFits, magnitude_abs, decide_eq_true_eq]

/-- The search of a falling step ends at the youngest stray that fits. -/
theorem strayToRemove_split (falling : step < 0) (hx : strayFits step x = true)
    (hy : ∀ y ∈ younger, strayFits step y = false) : strayToRemove step (older ++ x :: younger) = some x := by
  have none_younger : younger.reverse.find? (strayFits step) = none := by simpa using hy
  simp [strayToRemove, falling, none_younger, hx]

/-- The youngest stray that fits leaves, and the others keep their order. -/
theorem eraseYoungest_split (hx : strayFits step x = true) (hy : ∀ y ∈ younger, strayFits step y = false) :
    ((older ++ x :: younger).reverse.eraseP (strayFits step)).reverse = older ++ younger := by
  have keep_younger : ∀ y ∈ younger.reverse, ¬ strayFits step y = true := by simpa using hy
  simp [List.eraseP_append_right _ keep_younger, hx]

theorem removeStray_split {s : State} {i : Fin 12} {m : Int} (split : (s.cell i).strays = older ++ x :: younger)
    (hx : strayFits step x = true) (hy : ∀ y ∈ younger, strayFits step y = false) :
    s.removeStray i m step x =
      (s.setCell i { s.cell i with strays := older ++ younger, baseline := m }).request (.stray false i x) := by
  simp only [State.removeStray, split, eraseYoungest_split hx hy]

end Sys2Proof.Machine

open Sys2Proof Sys2Proof.Machine

/-- Settles O7: the second test of the sequence finds the stray at which the list is split. -/
theorem strayRemovalTakesTheYoungestFittingStray : Obligations.StrayRemovalTakesTheYoungestFittingStray := by
  intro s i m older younger x c step hf event fails falling split fits misfits
  have hx : strayFits step x = true := strayFits_iff.mpr fits
  have hy : ∀ y ∈ younger, strayFits step y = false :=
    fun y mem => Bool.eq_false_iff.mpr fun passes => absurd (strayFits_iff.mp passes) (not_le.mpr (misfits y mem))
  have found : strayToRemove step c.strays = some x := split ▸ strayToRemove_split falling hx hy
  rw [judge_of_event hf event, testSequence_of_stray (reversalPasses_eq_false_iff.mpr fails) found]
  exact removeStray_split split hx hy

end

section
/-! Joining the departure log: nothing but the log changes, and the oldest entry leaves exactly at a full log (R48). -/

namespace Sys2Proof.Machine

variable {s : State} {e oldest : Departure} {rest : List Departure}

/-- The log is the only field a joining entry touches. -/
theorem logJoin_eq_of_log {log : List Departure} (joined : (s.logJoin e).log = log) :
    s.logJoin e = { s with log := log } := by
  subst joined; rfl

theorem logJoin_log_of_room (room : s.log.length < 16) : (s.logJoin e).log = s.log ++ [e] := by
  have none_leave : s.log.length + 1 - 16 = 0 := by omega
  rw [logJoin_log, none_leave, List.drop_zero]

theorem logJoin_log_of_full (split : s.log = oldest :: rest) (full : s.log.length = 16) :
    (s.logJoin e).log = rest ++ [e] := by
  have one_leaves : s.log.length + 1 - 16 = 1 := by omega
  rw [logJoin_log, one_leaves, split, List.drop_one, List.tail_cons]

/-- One entry leaves a full log and one joins it. -/
theorem logJoin_length_of_full (full : s.log.length = 16) : (s.logJoin e).log.length = 16 := by
  simp only [logJoin_log, List.length_append, List.length_drop, full, List.length_singleton]

end Sys2Proof.Machine

open Sys2Proof Sys2Proof.Machine

/-- Settles O13: a log with room drops nothing, a full log drops its head. -/
theorem fullLogEvictsItsOldestEntry : Obligations.FullLogEvictsItsOldestEntry := by
  intro s e
  refine ⟨fun room => ?_, fun oldest rest split full => ⟨?_, ?_⟩⟩
  · exact logJoin_eq_of_log (logJoin_log_of_room room)
  · exact logJoin_eq_of_log (logJoin_log_of_full split full)
  · exact logJoin_length_of_full full

end

section
/-! The decision of an evaluation: one equation per row of R92's table, and how a due reminder joins it (R93). -/

namespace Sys2Proof.Machine

variable {x : AlertState} {j aggregate reorder margin : Nat} {own due : Bool}

theorem tableDecision_clear_of_low (low : aggregate ≤ reorder) :
    tableDecision ⟨.clear, j⟩ aggregate reorder margin = some ⟨.raised, if aggregate = 0 then 2 else 1⟩ :=
  if_pos low

theorem tableDecision_clear_of_above (above : reorder < aggregate) :
    tableDecision ⟨.clear, j⟩ aggregate reorder margin = none :=
  if_neg above.not_ge

/-- RAISED and HELD stand in one row of R92's table. -/
theorem tableDecision_announced (announced : x = .raised ∨ x = .held) :
    tableDecision ⟨x, j⟩ aggregate reorder margin =
      if aggregate = 0 ∧ j = 1 then some ⟨.raised, 2⟩
      else if reorder + margin ≤ aggregate then some ⟨.clear, 0⟩ else none := by
  obtain rfl | rfl := announced <;> rfl

theorem tableDecision_of_runsOut (announced : x = .raised ∨ x = .held) (runsOut : aggregate = 0 ∧ j = 1) :
    tableDecision ⟨x, j⟩ aggregate reorder margin = some ⟨.raised, 2⟩ := by
  rw [tableDecision_announced announced, if_pos runsOut]

theorem tableDecision_of_refilled (announced : x = .raised ∨ x = .held) (stocked : ¬ (aggregate = 0 ∧ j = 1))
    (refilled : reorder + margin ≤ aggregate) : tableDecision ⟨x, j⟩ aggregate reorder margin = some ⟨.clear, 0⟩ := by
  rw [tableDecision_announced announced, if_neg stocked, if_pos refilled]

theorem tableDecision_of_short (announced : x = .raised ∨ x = .held) (stocked : ¬ (aggregate = 0 ∧ j = 1))
    (short : aggregate < reorder + margin) : tableDecision ⟨x, j⟩ aggregate reorder margin = none := by
  rw [tableDecision_announced announced, if_neg stocked, if_neg short.not_ge]

/-- R93: a due reminder steps up a RAISED alert that is the record's own. -/
theorem reminderUrgency_of_step (step : due = true ∧ own = true ∧ x = .raised) :
    reminderUrgency ⟨x, j⟩ own due = some (if j = 1 then 2 else 3) := by
  obtain ⟨rfl, rfl, rfl⟩ := step
  rfl

/-- R93: nothing else gives a reminder. -/
theorem reminderUrgency_of_no_step (no_step : ¬ (due = true ∧ own = true ∧ x = .raised)) :
    reminderUrgency ⟨x, j⟩ own due = none := by
  simpa [reminderUrgency, and_assoc] using no_step

theorem reminderUrgency_clear : reminderUrgency ⟨.clear, j⟩ own due = none :=
  reminderUrgency_of_no_step (by simp)

/-- Without a reminder the table decides alone. -/
theorem decision_of_no_reminder {standing : Standing} (silent : reminderUrgency standing own due = none) :
    decision standing own due aggregate reorder margin = tableDecision standing aggregate reorder margin := by
  rw [decision, silent]
  cases tableDecision standing aggregate reorder margin <;> rfl

/-- Where the table decides nothing, the reminder decides alone. -/
theorem decision_of_no_row {standing : Standing} (no_row : tableDecision standing aggregate reorder margin = none) :
    decision standing own due aggregate reorder margin = (reminderUrgency standing own due).map (Standing.mk .raised) := by
  rw [decision, no_row]
  cases reminderUrgency standing own due <;> rfl

/-- R93: a CLEAR of the table stands, reminder or not. -/
theorem decision_of_row_clear {standing : Standing} {k : Nat}
    (row : tableDecision standing aggregate reorder margin = some ⟨.clear, k⟩) :
    decision standing own due aggregate reorder margin = some ⟨.clear, k⟩ := by
  rw [decision, row]
  cases reminderUrgency standing own due <;> rfl

/-- R93: a reminder never lowers a RAISED of the table. -/
theorem decision_of_row_raised {standing : Standing} {k : Nat}
    (row : tableDecision standing aggregate reorder margin = some ⟨.raised, k⟩) :
    decision standing own due aggregate reorder margin =
      some ⟨.raised, max k ((reminderUrgency standing own due).getD k)⟩ := by
  rw [decision, row]
  cases reminderUrgency standing own due <;> simp

/-- The reminder's step from urgency 1 is the urgency that an article run out has: the two agree. -/
theorem decision_of_runsOut (announced : x = .raised ∨ x = .held) (runsOut : aggregate = 0 ∧ j = 1) :
    decision ⟨x, j⟩ own due aggregate reorder margin = some ⟨.raised, 2⟩ := by
  rw [decision_of_row_raised (tableDecision_of_runsOut announced runsOut)]
  by_cases step : due = true ∧ own = true ∧ x = .raised
  · simp [reminderUrgency_of_step step, runsOut]
  · simp [reminderUrgency_of_no_step step]

/-- A request leaves every alert record as it is. -/
theorem SendSide.alert {s t : State} (h : SendSide s t) (l : Fin 12) : (t.line l).alert = (s.line l).alert := by
  rw [h.lines l]

end Sys2Proof.Machine

open Sys2Proof Sys2Proof.Machine

/-- Settles O24: row by row of the table, with the reminder where its step is due; an evaluation only asks for a frame. -/
theorem decisionTableAndReminder : Obligations.DecisionTableAndReminder := by
  refine ⟨fun x j aggregate reorder margin own due => ?_, fun s l => ?_⟩
  · refine ⟨?clearEmpty, ?clearLow, ?clearAbove, ?runsOut, ?refilled, ?short, ?reminded⟩
    case clearEmpty =>
      rintro rfl rfl
      rw [decision_of_no_reminder reminderUrgency_clear, tableDecision_clear_of_low reorder.zero_le, if_pos rfl]
    case clearLow =>
      rintro rfl stocked low
      rw [decision_of_no_reminder reminderUrgency_clear, tableDecision_clear_of_low low, if_neg stocked]
    case clearAbove =>
      rintro rfl above
      rw [decision_of_no_reminder reminderUrgency_clear, tableDecision_clear_of_above above]
    case runsOut => exact decision_of_runsOut
    case refilled =>
      intro announced stocked refilled
      exact decision_of_row_clear (tableDecision_of_refilled announced stocked refilled)
    case short =>
      intro announced stocked short no_step
      rw [decision_of_no_reminder (reminderUrgency_of_no_step no_step), tableDecision_of_short announced stocked short]
    case reminded =>
      intro stocked short step
      have announced : x = .raised ∨ x = .held := .inl step.2.2
      rw [decision_of_no_row (tableDecision_of_short announced stocked short), reminderUrgency_of_step step, Option.map_some]
  · rw [(evaluate_sendSide s l).alert l]

end

section
/-! Adoption of the lead's alert part: what a lawful record of each state holds, and R105's table cell by cell. -/

namespace Sys2Proof.Machine

variable {a : ArticleLine} {s : State} {l : Fin 12} {state : AlertState} {k now : Nat} {reminder : Option Nat}

/-- A lawful record without an alert is the record of a start. -/
theorem ArticleLine.AlertLawful.eq_of_clear (lawful : a.AlertLawful) (h : a.alert.state = .clear) :
    a.alert = ⟨.clear, 0, none, false, none⟩ := by
  obtain ⟨paired, reminds, restocks, due⟩ := lawful
  generalize a.alert = r at *
  cases r
  simp_all [alertPaired]

/-- A lawful HELD record runs no timer and has no reminder due. -/
theorem ArticleLine.AlertLawful.eq_of_held (lawful : a.AlertLawful) (h : a.alert.state = .held) :
    a.alert = ⟨.held, a.alert.urgency, none, false, none⟩ := by
  obtain ⟨-, reminds, restocks, due⟩ := lawful
  generalize a.alert = r at *
  cases r
  simp_all

/-- The restock timer of a lawful record runs in RESTOCKING alone. -/
theorem ArticleLine.AlertLawful.restockSince_of_ne (lawful : a.AlertLawful) (h : a.alert.state ≠ .restocking) :
    a.alert.restockSince = none := by
  obtain ⟨-, -, restocks, -⟩ := lawful
  simpa using mt restocks.mp h

/-- Column CLEAR of R105's table. -/
theorem adopted_clear (lawful : a.AlertLawful) : adopted a.alert .clear k reminder now = ⟨.clear, 0, none, false, none⟩ := by
  cases h : a.alert.state with
  | clear => simp only [adopted, h]; exact lawful.eq_of_clear h
  | raised | held | restocking => simp only [adopted, h]; rfl

/-- Column RAISED, from a record that announces nothing. -/
theorem adopted_raised_of_silent (lawful : a.AlertLawful) (h : a.alert.state = .clear ∨ a.alert.state = .restocking) :
    adopted a.alert .raised k reminder now = ⟨.raised, k, reminder, false, none⟩ := by
  obtain h | h := h
  · simp [adopted, lawful.eq_of_clear h]
  · simp only [adopted, h]

/-- Column RAISED, of a record that stays RAISED. -/
theorem adopted_raised_of_raised (h : a.alert.state = .raised) :
    adopted a.alert .raised k reminder now = { a.alert with urgency := max a.alert.urgency k } := by
  simp only [adopted, h]

/-- Column RAISED, from HELD. -/
theorem adopted_raised_of_held (lawful : a.AlertLawful) (h : a.alert.state = .held) :
    adopted a.alert .raised k reminder now = ⟨.raised, max a.alert.urgency k, reminder, false, none⟩ := by
  simp only [adopted, h, lawful.restockSince_of_ne (by simp [h])]

/-- Column HELD, from a record that announces nothing. -/
theorem adopted_held_of_silent (lawful : a.AlertLawful) (h : a.alert.state = .clear ∨ a.alert.state = .restocking) :
    adopted a.alert .held k reminder now = ⟨.held, k, none, false, none⟩ := by
  obtain h | h := h
  · simp [adopted, lawful.eq_of_clear h]
  · simp only [adopted, h]

/-- Column HELD, from RAISED or of a record that stays HELD. -/
theorem adopted_held_of_announced (lawful : a.AlertLawful) (h : a.alert.state = .raised ∨ a.alert.state = .held) :
    adopted a.alert .held k reminder now = ⟨.held, max a.alert.urgency k, none, false, none⟩ := by
  obtain h | h := h
  · simp only [adopted, h, lawful.restockSince_of_ne (by simp [h])]
  · rw [lawful.eq_of_held h]
    rfl

/-- Column RESTOCKING, of a record that stays RESTOCKING. -/
theorem adopted_restocking_of_restocking (h : a.alert.state = .restocking) :
    adopted a.alert .restocking k reminder now = a.alert := by
  simp only [adopted, h]

/-- Column RESTOCKING, from any other state. -/
theorem adopted_restocking_of_ne (h : a.alert.state ≠ .restocking) :
    adopted a.alert .restocking k reminder now = ⟨.restocking, 0, none, false, some now⟩ := by
  cases r : a.alert.state with
  | clear | raised | held => simp only [adopted, r]
  | restocking => exact absurd r h

/-- An alert part that does not pair is not adopted. -/
theorem adopt_of_unpaired (unpaired : alertPaired state k = false) : s.adopt l state k = s := by
  simp [State.adopt, unpaired]

/-- Outside an entry to RESTOCKING, adoption sets the record and nothing else. -/
theorem adopt_of_paired (paired : alertPaired state k = true)
    (stays : ¬ (state = .restocking ∧ (s.line l).alert.state ≠ .restocking)) :
    s.adopt l state k = s.setAlert l (adopted (s.line l).alert state k (s.freshReminder l) s.clock) := by
  rw [State.adopt, if_pos paired]
  exact if_neg stays

/-- An entry to RESTOCKING withdraws the article's WAITING ALERT. -/
theorem adopt_of_begins (paired : alertPaired .restocking k = true) (begins : (s.line l).alert.state ≠ .restocking) :
    s.adopt l .restocking k =
      (s.setAlert l ⟨.restocking, 0, none, false, some s.clock⟩).withdraw (isAlertOf (s.line l).config.code) := by
  simp [State.adopt, paired, adopted_restocking_of_ne begins, begins]

/-- A part in another state than RESTOCKING makes the record what its cell of the table says. -/
theorem adopt_eq_setLine {r : AlertRecord} (paired : alertPaired state k = true) (other : state ≠ .restocking)
    (cell : adopted (s.line l).alert state k (s.freshReminder l) s.clock = r) :
    s.adopt l state k = s.setLine l { s.line l with alert := r } := by
  rw [adopt_of_paired paired fun begins => other begins.1, cell]
  rfl

end Sys2Proof.Machine

open Sys2Proof Sys2Proof.Machine

/-- Settles O28: by the columns of R105's table, with the rows of each. -/
theorem adoptionBringsTheRecordIntoLine : Obligations.AdoptionBringsTheRecordIntoLine := by
  intro s l state k a r fresh Becomes lawful
  refine ⟨adopt_of_unpaired, fun paired => ?_⟩
  refine ⟨?clear, ?raisedSilent, ?raisedRaised, ?raisedHeld, ?heldSilent, ?heldAnnounced, ?restockingStays, ?restockingBegins⟩
    <;> rintro rfl
  case clear => exact adopt_eq_setLine paired (by decide) (adopted_clear lawful)
  case raisedSilent => exact fun h => adopt_eq_setLine paired (by decide) (adopted_raised_of_silent lawful h)
  case raisedRaised => exact fun h => adopt_eq_setLine paired (by decide) (adopted_raised_of_raised h)
  case raisedHeld => exact fun h => adopt_eq_setLine paired (by decide) (adopted_raised_of_held lawful h)
  case heldSilent => exact fun h => adopt_eq_setLine paired (by decide) (adopted_held_of_silent lawful h)
  case heldAnnounced => exact fun h => adopt_eq_setLine paired (by decide) (adopted_held_of_announced lawful h)
  case restockingStays =>
    intro h
    rw [adopt_of_paired paired fun begins => begins.2 h, adopted_restocking_of_restocking h]
    exact setLine_line s l
  case restockingBegins => exact fun h => adopt_of_begins paired h

end

section
/-! Requests into the send queue: which waiting frame a request merges into, replaces or is absorbed by, and what it leaves alone. -/

namespace Sys2Proof.Machine

variable {s : State} {c d : Content} {f g : SendFrame} {before after : List SendFrame} {w r : DeparturePart}
  {p : Option DeparturePart}

/-- A frame waits where its phase says so. -/
theorem SendFrame.isWaiting_iff : f.isWaiting = true ↔ f.phase = .waiting := by
  cases h : f.phase <;> simp [SendFrame.isWaiting, h]

/-- A frame that is being sent, or of another kind, takes no request in. -/
theorem takesIn_eq_false_iff :
    (f.isWaiting && sameKind f.content c) = false ↔ (f.phase = .waiting → sameKind f.content c = false) := by
  rw [Bool.and_eq_false_imp, SendFrame.isWaiting_iff]

/-- With no frame of its kind WAITING, a request joins. -/
theorem request_of_none_waiting (none_waits : ∀ g ∈ s.queue, g.phase = .waiting → sameKind g.content c = false) :
    s.request c = s.joinQueue c := by
  have no_taker : s.queue.any (fun f => f.isWaiting && sameKind f.content c) = false :=
    List.any_eq_false.mpr fun g hg => Bool.eq_false_iff.mp (takesIn_eq_false_iff.mpr (none_waits g hg))
  rw [State.request, no_taker]
  rfl

/-- A frame after a request: what a WAITING frame of its kind then holds, and any other frame as it was. -/
def SendFrame.takeIn (c : Content) (f : SendFrame) : SendFrame :=
  if f.isWaiting && sameKind f.content c then { f with content := mergeContent f.content c } else f

/-- A WAITING frame of the request's kind takes it in. -/
theorem takeIn_of_waiting (waits : f.phase = .waiting) (kind : sameKind f.content c = true) :
    f.takeIn c = { f with content := mergeContent f.content c } := by
  simp [SendFrame.takeIn, SendFrame.isWaiting_iff.mpr waits, kind]

/-- Any other frame stays as it is. -/
theorem takeIn_of_other (other : f.phase = .waiting → sameKind f.content c = false) : f.takeIn c = f := by
  rw [SendFrame.takeIn, takesIn_eq_false_iff.mpr other]
  rfl

/-- A list of other frames stays as it is. -/
theorem map_takeIn_of_other {queue : List SendFrame} (other : ∀ g ∈ queue, g.phase = .waiting → sameKind g.content c = false) :
    queue.map (SendFrame.takeIn c) = queue :=
  (List.map_congr_left fun g hg => takeIn_of_other (other g hg)).trans (List.map_id' queue)

/-- With a frame of its kind WAITING, a request is taken in and changes the queue alone. -/
theorem request_of_waiting (mem : f ∈ s.queue) (waits : f.phase = .waiting) (kind : sameKind f.content c = true) :
    s.request c = { s with queue := s.queue.map (SendFrame.takeIn c) } :=
  if_pos (List.any_eq_true.mpr ⟨f, mem, by simp [SendFrame.isWaiting_iff.mpr waits, kind]⟩)

/-- Any request is taken in, or joins. -/
theorem request_cases (s : State) (c : Content) :
    s.request c = { s with queue := s.queue.map (SendFrame.takeIn c) } ∨ s.request c = s.joinQueue c := by
  unfold State.request
  split
  · exact .inl rfl
  · exact .inr rfl

/-- A request merges into the one WAITING frame of its kind, in its place. -/
theorem request_of_split (split : s.queue = before ++ f :: after) (waits : f.phase = .waiting)
    (kind : sameKind f.content c = true)
    (others : ∀ g ∈ before ++ after, g.phase = .waiting → sameKind g.content c = false) :
    s.request c = { s with queue := before ++ { f with content := mergeContent f.content c } :: after } := by
  have older := map_takeIn_of_other fun g hg => others g (List.mem_append_left _ hg)
  have younger := map_takeIn_of_other fun g hg => others g (List.mem_append_right _ hg)
  rw [request_of_waiting (by simp [split]) waits kind, split, List.map_append, List.map_cons, older, younger,
    takeIn_of_waiting waits kind]

/-! ### The kinds of requests -/

/-- A TALLY is of the kind of a TALLY alone. -/
theorem sameKind_tally_iff : sameKind c .tally = true ↔ c = .tally := by
  cases c <;> simp [sameKind]

/-- The kind of an ALERT is its article's, whatever else it says. -/
theorem sameKind_alert (code : Code) (raised raised' : Bool) (urgency urgency' reorder reorder' : Nat) :
    sameKind c (.alert code raised urgency reorder) = sameKind c (.alert code raised' urgency' reorder') := by
  cases c <;> rfl

/-- A request that is no COUNT, ALERT or TALLY is of no frame's kind (R133). -/
theorem sameKind_eq_false_of_unmerged (no_count : ∀ code claim part, d ≠ .count code claim part)
    (no_alert : ∀ code raised urgency reorder, d ≠ .alert code raised urgency reorder) (no_tally : d ≠ .tally) :
    sameKind c d = false := by
  cases d with
  | count code claim part => exact absurd rfl (no_count code claim part)
  | alert code raised urgency reorder => exact absurd rfl (no_alert code raised urgency reorder)
  | tally => exact absurd rfl no_tally
  | command | stray | census | status | fault => cases c <;> rfl

/-- A TALLY request alters no frame. -/
theorem takeIn_tally (f : SendFrame) : f.takeIn .tally = f := by
  by_cases takes : f.phase = .waiting ∧ sameKind f.content .tally = true
  · obtain ⟨waits, kind⟩ := takes
    have tally := sameKind_tally_iff.mp kind
    have unchanged : mergeContent f.content .tally = f.content := by rw [tally]; rfl
    rw [takeIn_of_waiting waits kind, unchanged]
  · exact takeIn_of_other fun waits => by simpa [waits] using takes

/-- A TALLY request is absorbed by the one that waits. -/
theorem request_tally_of_waiting (mem : f ∈ s.queue) (waits : f.phase = .waiting) (tally : f.content = .tally) :
    s.request .tally = s := by
  rw [request_of_waiting mem waits (sameKind_tally_iff.mpr tally), funext takeIn_tally, List.map_id']

/-! ### Departure parts (R132) -/

/-- A request without a part leaves the waiting one. -/
theorem mergeParts_none_right : mergeParts p none = p := by
  cases p <;> rfl

/-- Parts of one unit weight and tolerance are summed, up to 255 units. -/
theorem mergeParts_of_agree (weight : w.unitWeight = r.unitWeight) (tolerance : w.tolerance = r.tolerance) :
    mergeParts (some w) (some r) = some { r with units := BitVec.ofNat 8 (min 255 (w.units.toNat + r.units.toNat)) } :=
  if_pos ⟨weight, tolerance⟩

/-- Of parts that differ the request's is carried whole. -/
theorem mergeParts_of_differ (differ : w.unitWeight ≠ r.unitWeight ∨ w.tolerance ≠ r.tolerance) :
    mergeParts (some w) (some r) = some r :=
  if_neg (by tauto)

/-! ### The frame being sent -/

/-- A lost frame changes no queue. -/
@[simp] theorem countLost_queue (s : State) (code : Code) : (s.countLost code).queue = s.queue := by
  unfold State.countLost
  split
  · rfl
  · split <;> rfl

@[simp] theorem tellLost_queue (s : State) (c : Content) : (s.tellLost c).queue = s.queue := by
  cases c with
  | count code claim part => exact countLost_queue s code
  | alert | command | stray | tally | census | status | fault => rfl

/-- Only a WAITING frame is evicted (R134). -/
theorem victim_waiting {queue : List SendFrame} (evicts : victim queue c = some g) : g ∈ queue ∧ g.phase = .waiting := by
  unfold victim at evicts
  dsimp only at evicts
  split at evicts
  next =>
    have chosen := List.find?_some evicts
    obtain ⟨waits, -⟩ := Bool.and_eq_true_iff.mp chosen
    exact ⟨List.mem_reverse.mp (List.mem_of_find?_eq_some evicts), SendFrame.isWaiting_iff.mp waits⟩
  next => cases evicts

/-- A frame of a bounded queue is the only one of its age. -/
theorem State.QueueBounded.eq_of_age (bounded : s.QueueBounded) (hf : f ∈ s.queue) (hg : g ∈ s.queue) (age : f.age = g.age) :
    f = g := by
  obtain ⟨-, -, -, ages⟩ := bounded
  exact List.inj_on_of_nodup_map (ages.imp Nat.ne_of_lt) hf hg age

/-- Below four frames a request joins as the youngest. -/
theorem joinQueue_of_room (room : s.queue.length < 4) : s.joinQueue c = s.enqueue c := if_pos room

/-- A request that joins leaves the SENDING frame in the queue. -/
theorem mem_joinQueue_of_sending (bounded : s.QueueBounded) (mem : f ∈ s.queue) (sends : f.phase ≠ .waiting) :
    f ∈ (s.joinQueue c).queue := by
  unfold State.joinQueue
  split
  next => exact List.mem_append_left _ mem
  next =>
    split
    next g evicts =>
      obtain ⟨hg, waits⟩ := victim_waiting evicts
      have other_age : f.age ≠ g.age := fun age => sends (bounded.eq_of_age mem hg age ▸ waits)
      rw [tellLost_queue]
      exact List.mem_append_left _ (List.mem_filter.mpr ⟨mem, bne_iff_ne.mpr other_age⟩)
    next =>
      rw [tellLost_queue]
      exact mem

/-- No request alters the SENDING frame. -/
theorem mem_request_of_sending (bounded : s.QueueBounded) (mem : f ∈ s.queue) (sends : f.phase ≠ .waiting) :
    f ∈ (s.request c).queue := by
  obtain merges | joins := request_cases s c
  · rw [merges]
    exact List.mem_map.mpr ⟨f, mem, takeIn_of_other fun waits => absurd waits sends⟩
  · rw [joins]
    exact mem_joinQueue_of_sending bounded mem sends

end Sys2Proof.Machine

open Sys2Proof Sys2Proof.Machine

/-- Settles O36: the merged content of the one waiting COUNT, with the four cases of its departure parts. -/
theorem countRequestsMerge : Obligations.CountRequestsMerge := by
  intro s code claim part c
  refine ⟨fun before f after held p split waits content others => ?merges, fun none_waits => ⟨fun room => ?_, ?_⟩⟩
  case merges =>
    have kind : sameKind f.content c = true := by rw [content]; exact beq_self_eq_true code
    have merged : mergeContent f.content c = .count code (held && claim) (mergeParts p part) := by rw [content]; rfl
    refine ⟨mergeParts p part, merged ▸ request_of_split split waits kind others, ?_, ?_, ?_⟩
    · rintro rfl
      rfl
    · rintro rfl
      exact mergeParts_none_right
    · rintro w r rfl rfl
      refine ⟨fun weight tolerance => ⟨_, ?_, mergeParts_of_agree weight tolerance⟩, mergeParts_of_differ⟩
      rw [BitVec.toNat_ofNat]
      omega
  · rw [request_of_none_waiting none_waits, joinQueue_of_room room]
    rfl
  · exact request_of_none_waiting none_waits

/-- Settles O37: absorption and replacement are merges of a WAITING frame; without one, and for the other kinds, the request joins. -/
theorem alertAndTallyRequestsMergeOthersDoNot : Obligations.AlertAndTallyRequestsMergeOthersDoNot := by
  intro s
  refine ⟨?absorbed, ?replaces, fun c => request_of_none_waiting, ?joins, fun c f mem sends bounded => ?sending⟩
  case absorbed =>
    rintro ⟨f, mem, waits, tally⟩
    exact request_tally_of_waiting mem waits tally
  case replaces =>
    intro code raised urgency reorder before f after raised' urgency' reorder' split waits content others
    have kind : sameKind f.content (.alert code raised urgency reorder) = true := by
      rw [content]; exact beq_self_eq_true code
    have replaced : mergeContent f.content (.alert code raised urgency reorder) = .alert code raised urgency reorder := by
      rw [content]; rfl
    rw [request_of_split split waits kind, replaced]
    intro g hg waiting
    rw [sameKind_alert code raised raised' urgency urgency' reorder reorder', ← content]
    exact others g hg waiting
  case joins =>
    intro g d no_count no_alert no_tally
    have unmerged := fun c => sameKind_eq_false_of_unmerged (c := c) no_count no_alert no_tally
    exact ⟨unmerged g, request_of_none_waiting fun f _ _ => unmerged f.content⟩
  case sending => exact mem_request_of_sending bounded mem sends

end

section
/-! The configuration image: the structural checks of its records (R159) and the clamping into the ranges of Table 10-2 (R160). -/

namespace Sys2Proof.Machine

/-! ### The structural checks -/

/-- The model's test for repeated values decides Mathlib's `Nodup`. -/
theorem allDistinct_iff_nodup {α : Type} [DecidableEq α] (list : List α) : allDistinct list = true ↔ list.Nodup := by
  induction list with
  | nil => simp [allDistinct]
  | cons x rest ih => simp [allDistinct, ih]

/-- R159: the Boolean check says its five parts. -/
theorem structureHolds_iff (i : Image) : structureHolds i = true ↔
    (∀ c ∈ i.cells, c.cell ≤ 11) ∧ (i.cells.map ImageCell.cell).Nodup ∧ (∀ c ∈ i.cells, c.article < i.articles.length) ∧
    (i.articles.map ArticleRecord.code).Nodup ∧
    ∀ k < i.articles.length, 1 ≤ (i.cells.filter (fun c => c.article = k)).length ∧
      (i.cells.filter (fun c => c.article = k)).length ≤ 4 := by
  simp only [structureHolds, Bool.and_eq_true, List.all_eq_true, decide_eq_true_eq, allDistinct_iff_nodup, List.mem_range,
    beq_eq_decide, and_assoc]

/-- R158: past format mark, counts, CRC and station number, the records' check alone ends the load. -/
theorem checkImage_of_earlier_checks {m : Memory} {i : Image}
    (read : i = readImage m (articleCountField m + 1) (cellCountField m + 1)) (mark : Memory.u8 m 0 = Config.formatMark)
    (articles : articleCountField m ≤ 11) (cells : cellCountField m ≤ 11)
    (crc : imageCrcAgrees m (articleCountField m + 1) (cellCountField m + 1) = true) (low : 1 ≤ i.number)
    (high : i.number ≤ 30) :
    checkImage m = if structureHolds i then .passed i else .failed .imageStructure i.number := by
  have counts : ¬ (11 < articleCountField m ∨ 11 < cellCountField m) := by omega
  have number : ¬ (i.number < 1 ∨ 30 < i.number) := by omega
  simp only [checkImage, ← read, mark, ne_eq, not_true_eq_false, if_false, counts, crc, number, Bool.not_eq_true',
    Bool.true_eq_false]
  cases structureHolds i <;> rfl

/-! ### The clamps -/

/-- Clamping is the larger of the lower bound and the smaller of the upper bound and the value. -/
theorem clampNat_eq {lo hi : Nat} (bounds : lo ≤ hi) (v : Nat) : clampNat lo hi v = max lo (min hi v) := by
  unfold clampNat
  split
  · omega
  · split <;> omega

/-- From 0 on, clamping only bounds from above. -/
theorem clampNat_zero (hi v : Nat) : clampNat 0 hi v = min hi v := by
  rw [clampNat_eq hi.zero_le, Nat.zero_max]

/-- A clamped value lies in its range, so a second clamp keeps it. -/
theorem clampNat_clampNat {lo hi : Nat} (bounds : lo ≤ hi) (v : Nat) :
    clampNat lo hi (clampNat lo hi v) = clampNat lo hi v := by
  simp only [clampNat_eq bounds]
  omega

/-- A quarter of a clamped unit weight leaves the tolerance a range: it is 12 g or more. -/
theorem five_le_quarter_clamped_unitWeight (u : Nat) : 5 ≤ clampNat 50 60000 u / 4 := by
  rw [clampNat_eq (by decide)]
  omega

/-- R160: an article record's fields after the clamps. -/
theorem clampArticle_eq (a : ArticleRecord) : clampArticle a =
    ⟨a.code, max 50 (min 60000 a.unitWeight), max 5 (min (max 50 (min 60000 a.unitWeight) / 4) a.tolerance),
      min 9999 a.reorder, max 1 (min 999 a.margin), a.reminderMinutes, max 5 (min 240 a.restockMinutes)⟩ := by
  have quarter := five_le_quarter_clamped_unitWeight a.unitWeight
  rw [clampNat_eq (by decide)] at quarter
  simp only [clampArticle, clampNat_zero, clampNat_eq quarter, clampNat_eq (show 50 ≤ 60000 by decide),
    clampNat_eq (show 1 ≤ 999 by decide), clampNat_eq (show 5 ≤ 240 by decide)]

/-- R160: a cell record's fields after the clamps. -/
theorem clampCell_eq (c : ImageCell) :
    clampCell c = ⟨c.cell, c.article, c.zeroOffset, if c.gain = 0 then 1 else c.gain, min 50000 c.tray⟩ := by
  simp only [clampCell, clampNat_zero]

/-- The second clamp of the tolerance meets the range of the first, since the unit weight's clamp already holds. -/
theorem clampArticle_clampArticle (a : ArticleRecord) : clampArticle (clampArticle a) = clampArticle a := by
  simp only [clampArticle, clampNat_clampNat (five_le_quarter_clamped_unitWeight a.unitWeight),
    clampNat_clampNat (show 50 ≤ 60000 by decide), clampNat_clampNat (show 0 ≤ 9999 by decide),
    clampNat_clampNat (show 1 ≤ 999 by decide), clampNat_clampNat (show 5 ≤ 240 by decide)]

/-- A gain set to 1 is no longer 0, and a clamped tray weight stays. -/
theorem clampCell_clampCell (c : ImageCell) : clampCell (clampCell c) = clampCell c := by
  have tray := clampNat_clampNat (show 0 ≤ 50000 by decide) c.tray
  by_cases zero : c.gain = 0
  · simp [clampCell, zero, tray]
  · simp [clampCell, zero, tray]

/-- An emptied place is below 31, so emptying places again changes none. -/
theorem emptied_place_comp : (fun p : Nat => if 31 ≤ p then 0 else p) ∘ (fun p => if 31 ≤ p then 0 else p) =
    fun p => if 31 ≤ p then 0 else p := by
  funext p
  by_cases outside : 31 ≤ p
  · simp [outside]
  · simp [outside]

/-- A clamped image lies within Table 10-2, so clamping it again changes nothing. -/
theorem clampImage_clampImage (i : Image) : clampImage (clampImage i) = clampImage i := by
  have articles : clampArticle ∘ clampArticle = clampArticle := funext clampArticle_clampArticle
  have cells : clampCell ∘ clampCell = clampCell := funext clampCell_clampCell
  simp only [clampImage, List.map_map, emptied_place_comp, articles, cells, clampNat_clampNat (show 20 ≤ 2000 by decide),
    clampNat_clampNat (show 2 ≤ 200 by decide), clampNat_clampNat (show 5 ≤ 120 by decide),
    clampNat_clampNat (show 1 ≤ 60 by decide)]

/-- R160: the flag is set exactly where a value lay outside its range. -/
theorem imageClampedBy_iff (i : Image) : imageClampedBy i = true ↔ clampImage i ≠ i := bne_iff_ne

end Sys2Proof.Machine

open Sys2Proof Sys2Proof.Machine

/-- Settles O46: the five parts of the check, and the load's end once every earlier check has passed. -/
theorem structuralChecksOfTheRecords : Obligations.StructuralChecksOfTheRecords := by
  refine ⟨structureHolds_iff, ?_⟩
  intro m a c i mark articles cells crc low high
  have load_end : checkImage m = if structureHolds i then .passed i else .failed .imageStructure i.number :=
    checkImage_of_earlier_checks rfl mark articles cells crc low high
  refine ⟨fun fails => ?_, fun holds => ?_⟩
  · rw [load_end, fails, if_neg Bool.false_ne_true]
  · rw [load_end, if_pos holds]

/-- Settles O48: each field by the clamp that names its range; a clamped image is its own clamped image. -/
theorem imageIsClampedIntoItsRanges : Obligations.ImageIsClampedIntoItsRanges := by
  intro i
  exact ⟨rfl, rfl, clampNat_eq (by decide) _, clampNat_eq (by decide) _, clampNat_eq (by decide) _, clampNat_eq (by decide) _,
    List.map_congr_left fun a _ => clampArticle_eq a, List.map_congr_left fun c _ => clampCell_eq c,
    imageClampedBy_iff i, clampImage_clampImage i⟩

end

section
/-! The laws of Safety.lean as one relation between a state and a later one, and the operations on cells, lines and the log that
keep them. An operation lists the laws whose fields it writes; each other law is carried on as it stands. -/

namespace Sys2Proof.Machine

/-- The last sender and the run counts of the supply monitor lie in their ranges (R111, R165, R171). -/
def State.RangesHold (s : State) : Prop := s.access.lastSender ≤ 31 ∧ s.supply.lowRun ≤ 2 ∧ s.supply.goodRun ≤ 2

/-- A restart is pending in RUNNING or BROWNOUT alone (R144). -/
def State.RestartLawful (s : State) : Prop := s.restartPending ≠ none → s.station = .running ∨ s.station = .brownout

/-- Each law of the station that holds before a change holds after it. -/
structure LawsKept (s t : State) : Prop where
  ownCounts : s.OwnCountsAgree → t.OwnCountsAgree := by exact id
  lines : s.LinesLawful → t.LinesLawful := by exact id
  alerts : s.AlertsLawful → t.AlertsLawful := by exact id
  hash : s.HashHolds → t.HashHolds := by exact id
  queue : s.QueueBounded → t.QueueBounded := by exact id
  merged : s.QueueBounded → s.QueueMerged → t.QueueMerged := by exact fun _ => id
  log : s.LogBounded → t.LogBounded := by exact id
  cells : s.CellsBounded → t.CellsBounded := by exact id
  unused : s.UnusedEmpty → t.UnusedEmpty := by exact id
  counters : s.counters.Bounded → t.counters.Bounded := by exact id
  ranges : s.RangesHold → t.RangesHold := by exact id
  memory : Memory.wf s.eeprom = true → Memory.wf t.eeprom = true := by exact id
  restart : s.RestartLawful → t.RestartLawful := by exact id

/-- What an operation within one event keeps besides: the station state and number, the waiting commands, the memory and the restart
mark. -/
structure Keeps (s t : State) : Prop extends LawsKept s t where
  station : t.station = s.station := by rfl
  number : t.number = s.number := by rfl
  pending : t.pending = s.pending := by rfl
  eeprom : t.eeprom = s.eeprom := by rfl
  restartPending : t.restartPending = s.restartPending := by rfl

theorem LawsKept.trans {s t u : State} (h : LawsKept s t) (k : LawsKept t u) : LawsKept s u where
  ownCounts := k.ownCounts ∘ h.ownCounts
  lines := k.lines ∘ h.lines
  alerts := k.alerts ∘ h.alerts
  hash := k.hash ∘ h.hash
  queue := k.queue ∘ h.queue
  merged := fun bounded => k.merged (h.queue bounded) ∘ h.merged bounded
  log := k.log ∘ h.log
  cells := k.cells ∘ h.cells
  unused := k.unused ∘ h.unused
  counters := k.counters ∘ h.counters
  ranges := k.ranges ∘ h.ranges
  memory := k.memory ∘ h.memory
  restart := k.restart ∘ h.restart

theorem Keeps.refl (s : State) : Keeps s s := {}

theorem Keeps.trans {s t u : State} (h : Keeps s t) (k : Keeps t u) : Keeps s u where
  toLawsKept := h.toLawsKept.trans k.toLawsKept
  station := k.station.trans h.station
  number := k.number.trans h.number
  pending := k.pending.trans h.pending
  eeprom := k.eeprom.trans h.eeprom
  restartPending := k.restartPending.trans h.restartPending

/-- An operation carried out for each value of a list keeps what each of its turns keeps. -/
theorem Keeps.foldl {α : Type} {f : State → α → State} (turn : ∀ s a, Keeps s (f s a)) (list : List α) (s : State) :
    Keeps s (list.foldl f s) := by
  induction list generalizing s with
  | nil => exact .refl s
  | cons a rest ih => exact (turn s a).trans (ih _)

variable {s : State} {i : Fin 12} {l : Fin 12}

/-! ### Fields that no law reads, and the counters -/

theorem advanceTo_keeps (moment : Nat) : Keeps s (s.advanceTo moment) := {}
theorem awaitIdle_keeps : Keeps s s.awaitIdle := {}
theorem hearCarrier_keeps (glitch : Bool) : Keeps s (s.hearCarrier glitch) := {}
theorem settleKey_keeps : Keeps s s.settleKey := {}
theorem setLast_keeps (command : CommandCode) (result : ResultCode) : Keeps s (s.setLast command result) := {}
theorem atLastStop_keeps (frame : Frame) : Keeps s (s.atLastStop frame) := {}
theorem passBitTime_keeps : Keeps s s.passBitTime := {}

/-- A counter that rises by 1 holds at 65,535 (R121). -/
theorem bump_eq (n : Nat) : bump n = min 65535 (n + 1) := by
  unfold bump Config.counterMax
  split <;> omega

theorem bump_le (n : Nat) : bump n ≤ Config.counterMax := by
  rw [bump_eq, Config.counterMax]
  omega

/-- Changing the counters within their range keeps every law. -/
theorem counters_keeps {c : Counters} (h : s.counters.Bounded → c.Bounded) : Keeps s { s with counters := c } where
  counters := h

theorem countTaken_keeps : Keeps s s.countTaken := counters_keeps fun ⟨_, rest⟩ => ⟨bump_le _, rest⟩
theorem countBad_keeps : Keeps s s.countBad := counters_keeps fun ⟨a, _, rest⟩ => ⟨a, bump_le _, rest⟩
theorem countOverLength_keeps : Keeps s s.countOverLength := counters_keeps fun ⟨a, b, _, rest⟩ => ⟨a, b, bump_le _, rest⟩
theorem countFiltered_keeps : Keeps s s.countFiltered :=
  counters_keeps fun ⟨a, b, c, _, rest⟩ => ⟨a, b, c, bump_le _, rest⟩
theorem countUnknown_keeps : Keeps s s.countUnknown :=
  counters_keeps fun ⟨a, b, c, d, _, rest⟩ => ⟨a, b, c, d, bump_le _, rest⟩
theorem countCollision_keeps : Keeps s s.countCollision :=
  counters_keeps fun ⟨a, b, c, d, e, _, rest⟩ => ⟨a, b, c, d, e, bump_le _, rest⟩
theorem countSendFailure_keeps : Keeps s s.countSendFailure :=
  counters_keeps fun ⟨a, b, c, d, e, f, _, rest⟩ => ⟨a, b, c, d, e, f, bump_le _, rest⟩
theorem countSendDrop_keeps : Keeps s s.countSendDrop :=
  counters_keeps fun ⟨a, b, c, d, e, f, g, _⟩ => ⟨a, b, c, d, e, f, g, bump_le _⟩

theorem setLastSender_keeps {n : Nat} (h : n ≤ 31) : Keeps s (s.setLastSender n) where
  ranges := fun ⟨_, runs⟩ => ⟨h, runs⟩

theorem badFrame_keeps : Keeps s s.badFrame := countBad_keeps.trans (setLastSender_keeps (Nat.zero_le _))

/-! ### The departure log -/

theorem logJoin_keeps {e : Departure} (units : 1 ≤ e.units ∧ e.units ≤ 255) : Keeps s (s.logJoin e) where
  log := fun ⟨length, entries⟩ => by
    refine ⟨logJoin_length s e length, fun d hd => ?_⟩
    rw [logJoin_log, List.mem_append, List.mem_singleton] at hd
    obtain old | rfl := hd
    · exact entries d (List.mem_of_mem_drop old)
    · exact units

/-- Taking a unit makes no list longer. -/
theorem takeUnit_length_le (p : Departure → Bool) (list : List Departure) : (takeUnit p list).length ≤ list.length := by
  induction list with
  | nil => exact le_rfl
  | cons e rest ih =>
    unfold takeUnit
    split
    · split <;> simp
    · simpa using ih

/-- An entry that is left behind a taken unit holds at least one and no more than before. -/
theorem units_of_mem_takeUnit {p : Departure → Bool} {list : List Departure} {d : Departure} (hd : d ∈ takeUnit p list)
    (h : ∀ e ∈ list, 1 ≤ e.units ∧ e.units ≤ 255) : 1 ≤ d.units ∧ d.units ≤ 255 := by
  induction list with
  | nil => cases hd
  | cons e rest ih =>
    have head := h e List.mem_cons_self
    have tail : ∀ e ∈ rest, 1 ≤ e.units ∧ e.units ≤ 255 := fun x hx => h x (List.mem_cons_of_mem _ hx)
    unfold takeUnit at hd
    split at hd
    · split at hd
      · exact tail d hd
      · obtain rfl | old := List.mem_cons.mp hd
        · dsimp only
          omega
        · exact tail d old
    · obtain rfl | old := List.mem_cons.mp hd
      · exact head
      · exact ih old tail

theorem consumeUnit_keeps (p : Departure → Bool) : Keeps s (s.consumeUnit p) where
  log := fun ⟨length, entries⟩ => by
    refine ⟨?_, fun d hd => ?_⟩
    · have shorter := takeUnit_length_le p s.log.reverse
      simp only [List.length_reverse, State.consumeUnit] at shorter ⊢
      exact shorter.trans length
    · exact units_of_mem_takeUnit (List.mem_reverse.mp hd) fun e he => entries e (List.mem_reverse.mp he)

/-! ### Cells -/

/-- A record that may take the place of a used cell's: its count stays, and it is used. -/
structure CellRecord.Keeps (c d : CellRecord) : Prop where
  used : d.state ≠ .unused
  count : d.count = c.count := by rfl
  bounded : c.Bounded → d.Bounded := by exact id

/-- The own counts follow the counts of the cells, and nothing else of them. -/
theorem countSum_congr {cells cells' : Vector CellRecord 12} (h : ∀ i : Fin 12, cells'[i].count = cells[i].count)
    (list : List (Fin 12)) : countSum cells' list = countSum cells list := by
  simp only [countSum, h]

theorem setCell_keeps {c : CellRecord} (h : (s.cell i).Keeps c) : Keeps s (s.setCell i c) where
  ownCounts := fun agree l => by
    have counts (j : Fin 12) : (s.setCell i c).cells[j].count = s.cells[j].count := by
      change ((s.setCell i c).cell j).count = (s.cell j).count
      rw [cell_setCell]
      split
      next same => rw [h.count, same]
      next => rfl
    rw [line_setCell, countSum_congr counts]
    exact agree l
  cells := fun bounded j => by
    rw [cell_setCell]
    split
    next => exact h.bounded (bounded i)
    next => exact bounded j
  unused := fun empty j unused => by
    rw [cell_setCell] at unused ⊢
    split
    next same => exact absurd (by rwa [if_pos same] at unused) h.used
    next other => exact empty j (by rwa [if_neg other] at unused)

theorem setCount_keeps {n : Nat} (used : (s.cell i).state ≠ .unused) (range : n ≤ 9999) : Keeps s (s.setCount i n) where
  ownCounts := fun _ l => by rw [line_setCount]
  lines := fun ⟨lawful, number, vacant⟩ => by
    refine ⟨fun l => ?_, fun l => ?_, fun stopped l => ?_⟩ <;> rw [line_setCount]
    · exact lawful l
    · exact number l
    · exact vacant stopped l
  alerts := fun lawful l => by rw [line_setCount]; exact lawful l
  hash := fun holds l => by rw [line_setCount]; exact holds l
  cells := fun bounded j => by
    rw [cell_setCount]
    split
    next =>
      obtain ⟨window, strays, -, balance⟩ := bounded i
      exact ⟨window, strays, range, balance⟩
    next => exact bounded j
  unused := fun empty j unused => by
    rw [cell_setCount] at unused ⊢
    split
    next same => exact absurd (by rwa [if_pos same] at unused) used
    next other => exact empty j (by rwa [if_neg other] at unused)

/-! ### Lines -/

/-- A record that may take the place of a line's at a station with this number. -/
structure ArticleLine.Keeps (number : Nat) (a b : ArticleLine) : Prop where
  config : b.config = a.config := by rfl
  ownCount : b.ownCount = a.ownCount := by rfl
  vacant : a.state = .vacant → b.state = .vacant := by exact id
  lawful : (a.state ≠ .vacant → 1 ≤ number ∧ number ≤ 30) → a.Lawful number → b.Lawful number := by exact fun _ => id
  alert : a.AlertLawful → b.AlertLawful := by exact id

theorem ArticleLine.Keeps.refl (number : Nat) (a : ArticleLine) : a.Keeps number a := {}

/-- Lines that change one by one as their laws allow keep every law. -/
theorem lines_keeps {lines : Vector ArticleLine 12} (h : ∀ k : Fin 12, (s.line k).Keeps s.number lines[k]) :
    Keeps s { s with lines := lines } where
  ownCounts := fun agree k => by
    change lines[k].ownCount = countSum s.cells lines[k].config.cells
    rw [(h k).ownCount, (h k).config]
    exact agree k
  lines := fun ⟨lawful, number, vacant⟩ =>
    ⟨fun k => (h k).lawful (number k) (lawful k), fun k used => number k (mt (h k).vacant used),
      fun stopped k => (h k).vacant (vacant stopped k)⟩
  alerts := fun lawful k => (h k).alert (lawful k)
  hash := fun holds k used => by
    change s.hashTable.getLsbD (hashIndex lines[k].config.code) = true
    rw [(h k).config]
    exact holds k (mt (h k).vacant used)

theorem setLine_keeps {a : ArticleLine} (h : (s.line l).Keeps s.number a) : Keeps s (s.setLine l a) :=
  lines_keeps fun k => by
    change (s.line k).Keeps s.number ((s.setLine l a).line k)
    rw [line_setLine]
    split
    next same => exact same ▸ h
    next => exact .refl _ _

theorem setAlert_keeps {r : AlertRecord} (h : (s.line l).AlertLawful → ({ s.line l with alert := r } : ArticleLine).AlertLawful) :
    Keeps s (s.setAlert l r) :=
  setLine_keeps { alert := h }

end Sys2Proof.Machine
end

section
/-! The send queue: every operation on it keeps its bounds, and no two WAITING frames come to merge (R117, R131 to R135). -/

namespace Sys2Proof.Machine

variable {s : State} {c d e : Content} {f g : SendFrame}

/-! ### Kinds -/

/-- What a request and a frame must share to merge: the kind of frame, and its article where it has one. -/
def mergeKey : Content → Option (Nat × Code)
  | .alert code .. => some (1, code)
  | .count code .. => some (3, code)
  | .tally => some (5, 0)
  | .command .. | .stray .. | .census _ | .status _ | .fault .. => none

theorem sameKind_iff : sameKind c d = true ↔ mergeKey c = mergeKey d ∧ mergeKey c ≠ none := by
  cases c <;> cases d <;> simp [sameKind, mergeKey]

theorem sameKind_symm (c d : Content) : sameKind c d = sameKind d c := by
  rw [Bool.eq_iff_iff, sameKind_iff, sameKind_iff]
  exact ⟨fun ⟨h, k⟩ => ⟨h.symm, h ▸ k⟩, fun ⟨h, k⟩ => ⟨h.symm, h ▸ k⟩⟩

theorem sameKind_congr (h : mergeKey c = mergeKey d) (e : Content) : sameKind c e = sameKind d e := by
  rw [Bool.eq_iff_iff, sameKind_iff, sameKind_iff, h]

theorem sameKind_trans (h : sameKind c d = true) (k : sameKind d e = true) : sameKind c e = true := by
  rwa [sameKind_congr (sameKind_iff.mp h).1]

/-- Merging leaves the kind. -/
theorem mergeKey_mergeContent (c d : Content) : mergeKey (mergeContent c d) = mergeKey c := by
  cases c <;> cases d <;> rfl

/-! ### The laws of the queue, read frame by frame -/

/-- No two of a kind both wait (R131). -/
def Apart (f g : SendFrame) : Prop := f.isWaiting = true → g.isWaiting = true → sameKind f.content g.content = false

theorem Apart.symm (h : Apart f g) : Apart g f := fun gw fw => by
  rw [sameKind_symm]
  exact h fw gw

theorem queueMerged_iff : s.QueueMerged ↔ s.queue.Pairwise Apart := List.pairwise_filter

/-- Changing the queue as its two laws allow keeps every law. -/
theorem queue_keeps {queue : List SendFrame} {age : Nat}
    (bounded : s.QueueBounded → ({ s with queue := queue, nextAge := age } : State).QueueBounded)
    (merged : s.QueueBounded → s.queue.Pairwise Apart → queue.Pairwise Apart) :
    Keeps s { s with queue := queue, nextAge := age } where
  queue := bounded
  merged := fun h k => queueMerged_iff.mpr (merged h (queueMerged_iff.mp k))

/-- Frames that leave break no law of the queue. -/
theorem sublist_keeps {queue : List SendFrame} (h : queue.Sublist s.queue) : Keeps s { s with queue := queue } :=
  queue_keeps
    (fun ⟨length, sending, frames, ages⟩ => ⟨h.length_le.trans length, (h.filter _).length_le.trans sending,
      fun f hf => frames f (h.mem hf), ages.sublist (h.map _)⟩)
    (fun _ apart => apart.sublist h)

theorem leaveQueue_keeps (age : Nat) : Keeps s (s.leaveQueue age) := sublist_keeps List.filter_sublist
theorem withdraw_keeps (p : Content → Bool) : Keeps s (s.withdraw p) := sublist_keeps List.filter_sublist

/-- Frames that change in their places, each with its age, keep the bounds while no more than one is being sent. -/
theorem State.QueueBounded.map_frames {change : SendFrame → SendFrame} (bounded : s.QueueBounded)
    (age : ∀ f ∈ s.queue, (change f).age = f.age) (attempts : ∀ f ∈ s.queue, (change f).attempts < 16)
    (sending : s.queue.countP (fun f => !(change f).isWaiting) ≤ 1) :
    ({ s with queue := s.queue.map change } : State).QueueBounded := by
  obtain ⟨length, -, frames, ages⟩ := bounded
  refine ⟨by simpa using length, ?_, fun f hf => ?_, ?_⟩
  · rw [← List.countP_eq_length_filter, List.countP_map]
    exact sending
  · obtain ⟨g, hg, rfl⟩ := List.mem_map.mp hf
    exact ⟨attempts g hg, by rw [age g hg]; exact (frames g hg).2⟩
  · rw [List.map_map, List.map_congr_left (g := SendFrame.age) (by exact age)]
    exact ages

theorem State.QueueBounded.attempts_lt (bounded : s.QueueBounded) (hf : f ∈ s.queue) : f.attempts < 16 :=
  (bounded.2.2.1 f hf).1

/-- At most one frame is being sent. -/
theorem State.QueueBounded.sending_le (bounded : s.QueueBounded) : s.queue.countP (fun f => !f.isWaiting) ≤ 1 := by
  rw [List.countP_eq_length_filter]
  exact bounded.2.1

/-- At most one frame is of an age. -/
theorem State.QueueBounded.age_le (bounded : s.QueueBounded) (age : Nat) : s.queue.countP (fun f => f.age == age) ≤ 1 := by
  have distinct : (s.queue.map SendFrame.age).Nodup := bounded.2.2.2.imp Nat.ne_of_lt
  have once := List.nodup_iff_count_le_one.mp distinct age
  rwa [List.count, List.countP_map] at once

/-! ### Requests -/

theorem takeIn_age (c : Content) (f : SendFrame) : (f.takeIn c).age = f.age := by unfold SendFrame.takeIn; split <;> rfl
theorem takeIn_attempts (c : Content) (f : SendFrame) : (f.takeIn c).attempts = f.attempts := by
  unfold SendFrame.takeIn; split <;> rfl
theorem takeIn_isWaiting (c : Content) (f : SendFrame) : (f.takeIn c).isWaiting = f.isWaiting := by
  unfold SendFrame.takeIn; split <;> rfl
theorem mergeKey_takeIn (c : Content) (f : SendFrame) : mergeKey (f.takeIn c).content = mergeKey f.content := by
  unfold SendFrame.takeIn
  split
  · exact mergeKey_mergeContent _ _
  · rfl

theorem takeIn_keeps (c : Content) : Keeps s { s with queue := s.queue.map (SendFrame.takeIn c) } := by
  refine queue_keeps (fun bounded => bounded.map_frames (fun f _ => takeIn_age c f) (fun f hf => ?_) ?_) (fun _ apart => ?_)
  · rw [takeIn_attempts]
    exact bounded.attempts_lt hf
  · simp only [takeIn_isWaiting]
    exact bounded.sending_le
  · refine List.pairwise_map.mpr (apart.imp fun {f g} h fw gw => ?_)
    rw [takeIn_isWaiting] at fw gw
    rw [sameKind_congr (mergeKey_takeIn c f), sameKind_symm, sameKind_congr (mergeKey_takeIn c g), sameKind_symm]
    exact h fw gw

/-- No frame that waits is of the request's kind, so the request will not merge. -/
def Unmerged (queue : List SendFrame) (c : Content) : Prop := ∀ g ∈ queue, g.phase = .waiting → sameKind g.content c = false

/-- A request that joins an empty slot is within the bounds of the queue. -/
theorem State.QueueBounded.enqueue (bounded : s.QueueBounded) (room : s.queue.length < 4) : (s.enqueue c).QueueBounded := by
  obtain ⟨-, sending, frames, ages⟩ := bounded
  refine ⟨?_, ?_, fun f hf => ?_, ?_⟩
  · rw [State.enqueue, List.length_append, List.length_singleton]
    exact room
  · simpa [State.enqueue, SendFrame.isWaiting] using sending
  · obtain old | new := List.mem_append.mp hf
    · exact ⟨(frames f old).1, Nat.lt_succ_of_lt (frames f old).2⟩
    · rw [List.mem_singleton.mp new]
      exact ⟨Nat.zero_lt_succ _, Nat.lt_succ_self _⟩
  · rw [State.enqueue, List.map_append, List.map_singleton]
    refine List.pairwise_append.mpr ⟨ages, List.pairwise_singleton _ _, fun a ha b hb => ?_⟩
    obtain ⟨f, hf, rfl⟩ := List.mem_map.mp ha
    rw [List.mem_singleton.mp hb]
    exact (frames f hf).2

/-- A request that does not merge is apart from every frame. -/
theorem apart_enqueue (apart : s.queue.Pairwise Apart) (unmerged : Unmerged s.queue c) : (s.enqueue c).queue.Pairwise Apart := by
  refine List.pairwise_append.mpr ⟨apart, List.pairwise_singleton _ _, fun f hf g hg fw _ => ?_⟩
  rw [List.mem_singleton.mp hg]
  exact unmerged f hf (SendFrame.isWaiting_iff.mp fw)

/-- An evicted frame leaves an empty slot. -/
theorem leaveQueue_length_lt (mem : f ∈ s.queue) : (s.leaveQueue f.age).queue.length < s.queue.length :=
  List.length_filter_lt_length_iff_exists.mpr ⟨f, mem, by simp⟩

/-- The claim timer of a FOLLOW line starts. -/
theorem startClaim_keeps {l : Fin 12} (follow : (s.line l).state = .follow) : Keeps s (s.startClaim l) :=
  setLine_keeps { lawful := fun _ h => by simpa only [ArticleLine.Lawful, follow] using h }

theorem countLost_keeps (code : Code) : Keeps s (s.countLost code) := by
  unfold State.countLost
  split
  · exact .refl s
  · split
    next starts => exact startClaim_keeps starts.1
    next => exact .refl s

theorem tellLost_keeps (c : Content) : Keeps s (s.tellLost c) := by
  cases c with
  | count code claim part => exact countLost_keeps code
  | alert | command | stray | tally | census | status | fault => exact .refl s

theorem joinQueue_keeps (unmerged : Unmerged s.queue c) : Keeps s (s.joinQueue c) := by
  unfold State.joinQueue
  split
  next room => exact queue_keeps (·.enqueue room) fun _ apart => apart_enqueue apart unmerged
  next =>
    split
    next f evicts =>
      have left : (s.leaveQueue f.age).queue.Sublist s.queue := List.filter_sublist
      have joins : Keeps s ((s.leaveQueue f.age).enqueue c) := queue_keeps
        (fun bounded => ((leaveQueue_keeps f.age).queue bounded).enqueue
          ((leaveQueue_length_lt (victim_waiting evicts).1).trans_le bounded.1))
        (fun _ apart => apart_enqueue (apart.sublist left) fun g hg => unmerged g (left.mem hg))
      exact joins.trans (countSendDrop_keeps.trans (tellLost_keeps f.content))
    next => exact countSendDrop_keeps.trans (tellLost_keeps c)

theorem request_keeps (c : Content) : Keeps s (s.request c) := by
  unfold State.request
  split
  next => exact takeIn_keeps c
  next none_takes =>
    exact joinQueue_keeps fun g hg =>
      takesIn_eq_false_iff.mp (Bool.eq_false_iff.mpr fun takes => none_takes (List.any_eq_true.mpr ⟨g, hg, takes⟩))

theorem requestCount_keeps (l : Fin 12) (claim : Bool) (part : Option DeparturePart) : Keeps s (s.requestCount l claim part) :=
  request_keeps _

theorem requestTally_keeps : Keeps s s.requestTally := by
  unfold State.requestTally
  split
  · exact .refl s
  · exact request_keeps _

theorem requestCommand_keeps (command : CommandCode) (codes : List Code) : Keeps s (s.requestCommand command codes) := by
  unfold State.requestCommand
  split
  · exact .refl s
  · exact request_keeps _

theorem requestCountOfCell_keeps (i : Fin 12) (part : Option DeparturePart) : Keeps s (s.requestCountOfCell i part) := by
  unfold State.requestCountOfCell
  split
  · split
    · exact requestCount_keeps _ _ _
    · exact .refl s
  · exact .refl s

theorem evaluate_keeps (l : Fin 12) : Keeps s (s.evaluate l) := by
  unfold State.evaluate
  split
  · split
    · exact .refl s
    · exact request_keeps _
  · exact .refl s

theorem minuteEvaluations_keeps : Keeps s s.minuteEvaluations := Keeps.foldl (fun _ l => evaluate_keeps l) allTwelve s

/-! ### Attempts -/

theorem replaceFrame_eq (s : State) (f : SendFrame) :
    s.replaceFrame f = { s with queue := s.queue.map (fun g => if g.age == f.age then f else g) } := rfl

/-- A WAITING frame in the place of the one of its age: no more frames are being sent. -/
theorem replaceFrame_bounded (bounded : s.QueueBounded) (waits : f.isWaiting = true) (attempts : f.attempts < 16) :
    (s.replaceFrame f).QueueBounded := by
  refine bounded.map_frames (fun g _ => ?_) (fun g hg => ?_) ((List.countP_mono_left fun g _ => ?_).trans bounded.sending_le)
  · split
    next same => exact (beq_iff_eq.mp same).symm
    next => rfl
  · split
    next => exact attempts
    next => exact bounded.attempts_lt hg
  · split
    next => simp [waits]
    next => exact id

/-- A frame that is apart from the frames of other ages may take the place of the one of its age. -/
theorem replaceFrame_apart (bounded : s.QueueBounded) (apart : s.queue.Pairwise Apart)
    (others : ∀ g ∈ s.queue, g.age ≠ f.age → Apart f g) : (s.replaceFrame f).queue.Pairwise Apart := by
  have ages := List.pairwise_map.mp bounded.2.2.2
  refine List.pairwise_map.mpr ((apart.and ages).imp_of_mem fun {g h} hg hh ⟨apart, age⟩ => ?_)
  by_cases fg : g.age = f.age
  · have fh : h.age ≠ f.age := by omega
    simpa [fg, fh] using others h hh fh
  · by_cases fh : h.age = f.age
    · simpa [fg, fh] using (others g hg fg).symm
    · simpa [fg, fh] using apart

/-- Two WAITING frames of one kind are one frame (R131). -/
theorem eq_of_sameKind (apart : s.queue.Pairwise Apart) (hf : f ∈ s.queue) (hg : g ∈ s.queue) (fw : f.isWaiting = true)
    (gw : g.isWaiting = true) (kind : sameKind f.content g.content = true) : f = g := by
  have : Std.Symm Apart := ⟨fun _ _ => Apart.symm⟩
  by_contra other
  simp [apart.forall hf hg other fw gw] at kind

/-- A frame that returns to WAITING takes in the one WAITING frame of its kind, so it is apart from the others (R115). -/
theorem returnToWaiting_keeps (attempts : f.attempts < 16) : Keeps s (s.returnToWaiting f) := by
  unfold State.returnToWaiting
  cases younger : s.queue.find? (fun g => g.isWaiting && sameKind g.content f.content) with
  | none =>
    refine queue_keeps (fun bounded => replaceFrame_bounded bounded rfl attempts)
      (fun bounded apart => replaceFrame_apart bounded apart fun g hg _ _ gw => ?_)
    have no_younger := List.find?_eq_none.mp younger g hg
    rw [sameKind_symm]
    simpa [gw] using no_younger
  | some g =>
    have found := List.find?_some younger
    obtain ⟨gw, kind⟩ := Bool.and_eq_true_iff.mp found
    have left : (s.leaveQueue g.age).queue.Sublist s.queue := List.filter_sublist
    refine queue_keeps (fun bounded => replaceFrame_bounded ((leaveQueue_keeps g.age).queue bounded) rfl attempts)
      (fun bounded apart => replaceFrame_apart ((leaveQueue_keeps g.age).queue bounded) (apart.sublist left)
        fun h hh _ _ hw => ?_)
    obtain ⟨mem, other⟩ := List.mem_filter.mp hh
    by_contra same
    rw [sameKind_congr (mergeKey_mergeContent _ _), Bool.not_eq_false, sameKind_symm] at same
    rw [sameKind_symm] at kind
    have twice := sameKind_trans same kind
    have one := eq_of_sameKind apart mem (List.mem_of_find?_eq_some younger) hw gw twice
    simp [one] at other

theorem failAttempt_keeps : Keeps s (s.failAttempt f) := by
  unfold State.failAttempt
  dsimp only
  split
  next => exact (leaveQueue_keeps _).trans (countSendFailure_keeps.trans (tellLost_keeps _))
  next more => exact returnToWaiting_keeps (not_le.mp more)

/-- The serial that a COUNT takes at its first attempt is a field of its line that no law reads (R67). -/
theorem takeSerial_keeps (f : SendFrame) : Keeps s (s.takeSerial f).1 := by
  unfold State.takeSerial
  split
  · exact .refl s
  · split
    · exact setLine_keeps {}
    · exact .refl s
  · exact .refl s

@[simp] theorem takeSerial_queue (s : State) (f : SendFrame) : (s.takeSerial f).1.queue = s.queue := by
  unfold State.takeSerial
  split
  · rfl
  · split <;> rfl
  · rfl

/-- One frame enters SENDING while none is being sent (R114). -/
theorem replaceFrame_sending_keeps {frame : Frame} {serial : Option Byte} (mem : f ∈ s.queue)
    (silent : ∀ g ∈ s.queue, g.isWaiting = true) :
    Keeps s (s.replaceFrame { f with phase := .sending frame, serial := serial }) := by
  refine queue_keeps (fun bounded => bounded.map_frames (fun g _ => ?_) (fun g hg => ?_)
    ((List.countP_mono_left fun g hg => ?_).trans (bounded.age_le f.age)))
    (fun bounded apart => replaceFrame_apart bounded apart fun g _ _ sends => absurd sends Bool.false_ne_true)
  · split
    next same => exact (beq_iff_eq.mp same).symm
    next => rfl
  · split
    next => exact bounded.attempts_lt (f := f) mem
    next => exact bounded.attempts_lt hg
  · split
    next same => exact fun _ => same
    next => simp [silent g hg]

theorem beginAttempt_keeps (mem : f ∈ s.queue) (silent : ∀ g ∈ s.queue, g.isWaiting = true) : Keeps s (s.beginAttempt f) := by
  have sends := (takeSerial_keeps f).trans (replaceFrame_sending_keeps (s := (s.takeSerial f).1) (f := f)
    (frame := ⟨BitVec.ofNat 8 (s.takeSerial f).1.number, (s.takeSerial f).1.formBody f.content (s.takeSerial f).2⟩)
    (serial := match f.content with | .count .. => some (s.takeSerial f).2 | _ => f.serial)
    (by rwa [takeSerial_queue]) (by rwa [takeSerial_queue]))
  exact sends.trans {}

end Sys2Proof.Machine
end

section
/-! The contribution map (4.3): a peer's report updates the peer's entry, adds one, or finds the map full. -/

namespace Sys2Proof.Machine

variable {a : ArticleLine} {peer count now number : Nat} {serial : Byte} {e : MapEntry} {before after : List MapEntry}

/-- The entry of a peer that a map lists once. -/
theorem entry_split (split : a.map = before ++ e :: after) (own : e.station = peer)
    (others : ∀ x ∈ before ++ after, x.station ≠ peer) : a.entry peer = some e := by
  have none_before : before.find? (fun e => e.station == peer) = none :=
    List.find?_eq_none.mpr fun x hx => by simpa using others x (List.mem_append_left _ hx)
  rw [ArticleLine.entry, split, List.find?_append, none_before, List.find?_cons_of_pos (by simpa using own), Option.none_or]

/-- A list without the peer's entry stays as it is. -/
theorem updateEntry_of_other {map : List MapEntry} (others : ∀ x ∈ map, x.station ≠ peer) (f : MapEntry → MapEntry) :
    updateEntry map peer f = map :=
  (List.map_congr_left fun x hx => if_neg (by simpa using others x hx)).trans (List.map_id' map)

/-- Only the peer's entry is updated. -/
theorem updateEntry_split (own : e.station = peer) (others : ∀ x ∈ before ++ after, x.station ≠ peer) (f : MapEntry → MapEntry) :
    updateEntry (before ++ e :: after) peer f = before ++ f e :: after := by
  have older := updateEntry_of_other (fun x hx => others x (List.mem_append_left _ hx)) f
  have younger := updateEntry_of_other (fun x hx => others x (List.mem_append_right _ hx)) f
  rw [updateEntry, List.map_append, List.map_cons, ← updateEntry, ← updateEntry, older, younger, if_pos (by simpa using own)]

/-- A peer without an entry is unknown. -/
theorem entry_eq_none_iff : a.entry peer = none ↔ ∀ e ∈ a.map, e.station ≠ peer := by
  simp [ArticleLine.entry]

/-- R68: a serial is compared with the last one, where the entry holds one. -/
theorem serialGap_iff : serialGap e serial = true ↔ ∃ last, e.lastSerial = some last ∧ serial ≠ last + 1 := by
  unfold serialGap
  cases e.lastSerial <;> simp

theorem countEntry_of_known (known : a.entry peer = some e) :
    a.countEntry peer count serial now = { a with
      map := updateEntry a.map peer (fun e => countedEntry e count serial now)
      serialGaps := if serialGap e serial then min 255 (a.serialGaps + 1) else a.serialGaps } := by
  simp only [ArticleLine.countEntry, known, Config.gapsMax]

theorem tallyEntry_of_known (known : a.entry peer = some e) :
    a.tallyEntry peer count now = { a with map := updateEntry a.map peer (fun e => talliedEntry e count now) } := by
  simp only [ArticleLine.tallyEntry, known]

theorem countEntry_of_new (unknown : a.entry peer = none) (room : a.map.length < 12) :
    a.countEntry peer count serial now = { a with map := a.map ++ [⟨peer, count, some serial, now, false⟩] } := by
  simp only [ArticleLine.countEntry, unknown, Config.mapMax, room, if_true]

theorem tallyEntry_of_new (unknown : a.entry peer = none) (room : a.map.length < 12) :
    a.tallyEntry peer count now = { a with map := a.map ++ [⟨peer, count, none, now, false⟩] } := by
  simp only [ArticleLine.tallyEntry, unknown, Config.mapMax, room, if_true]

theorem countEntry_of_full (unknown : a.entry peer = none) (full : 12 ≤ a.map.length) :
    a.countEntry peer count serial now = { a with incomplete := true } := by
  simp only [ArticleLine.countEntry, unknown, Config.mapMax, full.not_gt, if_false]

theorem tallyEntry_of_full (unknown : a.entry peer = none) (full : 12 ≤ a.map.length) :
    a.tallyEntry peer count now = { a with incomplete := true } := by
  simp only [ArticleLine.tallyEntry, unknown, Config.mapMax, full.not_gt, if_false]

/-! ### The laws of a map -/

/-- A map holds at most 12 entries, one for a peer, none for this station (R64). -/
def MapLawful (number : Nat) (map : List MapEntry) : Prop :=
  map.length ≤ 12 ∧ (map.map MapEntry.station).Nodup ∧ ∀ e ∈ map, isPeer number e.station = true

/-- Entries that leave break no law of a map. -/
theorem MapLawful.sublist {map map' : List MapEntry} (h : MapLawful number map) (sub : map'.Sublist map) :
    MapLawful number map' :=
  ⟨sub.length_le.trans h.1, h.2.1.sublist (sub.map _), fun e he => h.2.2 e (sub.mem he)⟩

/-- An update of an entry keeps its station, and so the laws of its map. -/
theorem MapLawful.updateEntry {map : List MapEntry} (h : MapLawful number map) {f : MapEntry → MapEntry}
    (station : ∀ e, (f e).station = e.station) : MapLawful number (updateEntry map peer f) := by
  have stations (e : MapEntry) : (if e.station == peer then f e else e).station = e.station := by
    split
    · exact station e
    · rfl
  obtain ⟨length, distinct, peers⟩ := h
  refine ⟨by simpa [Machine.updateEntry] using length, ?_, fun e he => ?_⟩
  · rw [Machine.updateEntry, List.map_map, show MapEntry.station ∘ _ = MapEntry.station from funext stations]
    exact distinct
  · obtain ⟨x, hx, rfl⟩ := List.mem_map.mp he
    rw [stations]
    exact peers x hx

/-- A new peer's entry joins a map with room. -/
theorem MapLawful.append {map : List MapEntry} (h : MapLawful number map) (room : map.length < 12)
    (peer : isPeer number e.station = true) (unknown : ∀ x ∈ map, x.station ≠ e.station) : MapLawful number (map ++ [e]) := by
  obtain ⟨-, distinct, peers⟩ := h
  refine ⟨by simpa using room, ?_, fun x hx => ?_⟩
  · rw [List.map_append]
    refine distinct.append (List.nodup_singleton _) fun n hn he => ?_
    obtain ⟨x, hx, rfl⟩ := List.mem_map.mp hn
    exact unknown x hx (List.mem_singleton.mp he)
  · obtain old | new := List.mem_append.mp hx
    · exact peers x old
    · rw [List.mem_singleton.mp new]
      exact peer

/-- What a peer's COUNT can make of a line: its map, its gaps and its INCOMPLETE flag. -/
theorem countEntry_cases (h : isPeer number peer = true) : ∃ map gaps incomplete,
    a.countEntry peer count serial now = { a with map := map, serialGaps := gaps, incomplete := incomplete } ∧
    map ≠ [] ∧ (MapLawful number a.map → MapLawful number map) := by
  cases known : a.entry peer with
  | some e =>
    refine ⟨_, _, _, countEntry_of_known known, ?_, (·.updateEntry fun _ => rfl)⟩
    simpa [updateEntry] using List.ne_nil_of_mem (List.mem_of_find?_eq_some known)
  | none =>
    by_cases room : a.map.length < 12
    · exact ⟨_, _, _, countEntry_of_new known room, by simp, (·.append room h (entry_eq_none_iff.mp known))⟩
    · refine ⟨_, _, _, countEntry_of_full known (not_lt.mp room), ?_, id⟩
      rintro empty
      simp [empty] at room

/-- The same for a peer's TALLY entry. -/
theorem tallyEntry_cases (h : isPeer number peer = true) : ∃ map incomplete,
    a.tallyEntry peer count now = { a with map := map, incomplete := incomplete } ∧
    map ≠ [] ∧ (MapLawful number a.map → MapLawful number map) := by
  cases known : a.entry peer with
  | some e =>
    refine ⟨_, _, tallyEntry_of_known known, ?_, (·.updateEntry fun _ => rfl)⟩
    simpa [updateEntry] using List.ne_nil_of_mem (List.mem_of_find?_eq_some known)
  | none =>
    by_cases room : a.map.length < 12
    · exact ⟨_, _, tallyEntry_of_new known room, by simp, (·.append room h (entry_eq_none_iff.mp known))⟩
    · refine ⟨_, _, tallyEntry_of_full known (not_lt.mp room), ?_, id⟩
      rintro empty
      simp [empty] at room

end Sys2Proof.Machine

open Sys2Proof Sys2Proof.Machine

/-- Settles O15: the three cases of the peer's entry, and the comparison of a COUNT's serial with the last one. -/
theorem mapEntryTakesAPeersReport : Obligations.MapEntryTakesAPeersReport := by
  intro a peer count now serial
  refine ⟨fun before after e split own others => ?known, fun unknown => ⟨fun room => ?new, fun full => ?full⟩⟩
  case known =>
    have known := entry_split split own others
    have counted := countEntry_of_known (count := count) (serial := serial) (now := now) known
    rw [split, updateEntry_split own others] at counted
    refine ⟨⟨?_, fun no_last => ?_, fun last some_last => ⟨fun next => ?_, fun gap => ?_⟩⟩, ?_⟩
    · rw [counted]
      rfl
    · rw [counted]
      exact if_neg (by simp [serialGap_iff, no_last])
    · rw [counted]
      exact if_neg (by simp [serialGap_iff, some_last, next])
    · rw [counted]
      exact if_pos (serialGap_iff.mpr ⟨last, some_last, gap⟩)
    · rw [tallyEntry_of_known known, split, updateEntry_split own others]
      rfl
  case new =>
    have unknown := entry_eq_none_iff.mpr unknown
    exact ⟨countEntry_of_new unknown room, tallyEntry_of_new unknown room⟩
  case full =>
    have unknown := entry_eq_none_iff.mpr unknown
    exact ⟨countEntry_of_full unknown full, tallyEntry_of_full unknown full⟩

end

section
/-! What the blocks of chapters 4 and 5 do to a line keeps its laws. -/

namespace Sys2Proof.Machine

variable {s : State} {a : ArticleLine} {l : Fin 12} {peer count number k now : Nat} {serial : Byte}

/-! ### Alert records -/

theorem urgency_le_three {state : AlertState} {urgency : Nat} (h : alertPaired state urgency = true) : urgency ≤ 3 := by
  cases state <;> simp [alertPaired] at h <;> omega

/-- A larger urgency of an announced alert pairs with it. -/
theorem alertPaired_max {state state' : AlertState} {urgency : Nat} (h : alertPaired state urgency = true)
    (announced : state' = .raised ∨ state' = .held) (paired : alertPaired state' k = true) :
    alertPaired state' (max urgency k) = true := by
  have high := urgency_le_three h
  obtain rfl | rfl := announced <;> simp [alertPaired] at paired ⊢ <;> omega

/-- A record without timers: CLEAR, or HELD. -/
theorem alertLawful_of_still {state : AlertState} (other : state = .clear ∨ state = .held) (paired : alertPaired state k = true) :
    ({ a with alert := ⟨state, k, none, false, none⟩ } : ArticleLine).AlertLawful := by
  refine ⟨paired, ?_, ?_, ?_⟩ <;> obtain rfl | rfl := other <;> simp

/-- A RAISED record whose reminder timer has just been started, where the interval is not 0. -/
theorem alertLawful_of_raised {reminder : Option Nat} {due : Bool} (paired : alertPaired .raised k = true)
    (fresh : reminder.isSome = true ↔ a.config.reminderMinutes ≠ 0) (reminds : due = true → a.config.reminderMinutes ≠ 0) :
    ({ a with alert := ⟨.raised, k, reminder, due, none⟩ } : ArticleLine).AlertLawful :=
  ⟨paired, by simpa using fresh, by simp, by simpa using reminds⟩

/-- A RESTOCKING record. -/
theorem alertLawful_of_restocking :
    ({ a with alert := ⟨.restocking, 0, none, false, some now⟩ } : ArticleLine).AlertLawful :=
  ⟨rfl, by simp, by simp, by simp⟩

/-- A reminder timer started from 0 runs where the interval is not 0 (R98). -/
theorem freshReminder_isSome : (s.freshReminder l).isSome = true ↔ (s.line l).config.reminderMinutes ≠ 0 := by
  unfold State.freshReminder
  split <;> simp [*]

/-- A RAISED record whose urgency rises. -/
theorem ArticleLine.AlertLawful.raise (lawful : a.AlertLawful) (h : a.alert.state = .raised) (paired : alertPaired .raised k = true) :
    ({ a with alert := { a.alert with urgency := max a.alert.urgency k } } : ArticleLine).AlertLawful := by
  obtain ⟨own, reminds, restocks, due⟩ := lawful
  exact ⟨by simpa only [h] using alertPaired_max own (.inl rfl) paired, reminds, restocks, due⟩

/-- R105's table leads from lawful records to lawful records. -/
theorem adopted_lawful {state : AlertState} {reminder : Option Nat} (lawful : a.AlertLawful) (paired : alertPaired state k = true)
    (fresh : reminder.isSome = true ↔ a.config.reminderMinutes ≠ 0) :
    ({ a with alert := adopted a.alert state k reminder now } : ArticleLine).AlertLawful := by
  have silent_or : (a.alert.state = .clear ∨ a.alert.state = .restocking) ∨ a.alert.state = .raised ∨ a.alert.state = .held := by
    cases a.alert.state <;> simp
  have larger (h : state = .raised ∨ state = .held) : alertPaired state (max a.alert.urgency k) = true :=
    alertPaired_max lawful.1 h paired
  cases state with
  | clear =>
    rw [adopted_clear lawful]
    exact alertLawful_of_still (.inl rfl) rfl
  | raised =>
    obtain silent | raised | held := silent_or
    · rw [adopted_raised_of_silent lawful silent]
      exact alertLawful_of_raised paired fresh (by simp)
    · rw [adopted_raised_of_raised raised]
      exact lawful.raise raised paired
    · rw [adopted_raised_of_held lawful held]
      exact alertLawful_of_raised (larger (.inl rfl)) fresh (by simp)
  | held =>
    obtain silent | announced := silent_or
    · rw [adopted_held_of_silent lawful silent]
      exact alertLawful_of_still (.inr rfl) paired
    · rw [adopted_held_of_announced lawful announced]
      exact alertLawful_of_still (.inr rfl) (larger (.inr rfl))
  | restocking =>
    by_cases stays : a.alert.state = .restocking
    · rw [adopted_restocking_of_restocking stays]
      exact lawful
    · rw [adopted_restocking_of_ne stays]
      exact alertLawful_of_restocking

theorem adopt_keeps (state : AlertState) (urgency : Nat) : Keeps s (s.adopt l state urgency) := by
  unfold State.adopt
  split
  next paired =>
    have sets : Keeps s (s.setAlert l (adopted (s.line l).alert state urgency (s.freshReminder l) s.clock)) :=
      setAlert_keeps fun lawful => adopted_lawful lawful paired freshReminder_isSome
    dsimp only
    split
    · exact sets.trans (withdraw_keeps _)
    · exact sets
  next => exact .refl s

/-- R89: an ALERT leaves a RESTOCKING record. -/
theorem alertFrame_of_restocking (h : (s.line l).alert.state = .restocking) (state urgency : Nat) :
    s.alertFrame l state urgency = s := by
  simp only [State.alertFrame, h]
  cases alertStateOf state with
  | none => rfl
  | some x => cases x <;> rfl

/-- R89: a RAISED ALERT raises or merges. -/
theorem alertFrame_of_raised {state : Nat} (announced : alertStateOf state = some .raised)
    (h : (s.line l).alert.state ≠ .restocking) (urgency : Nat) :
    s.alertFrame l state urgency =
      if alertPaired .raised urgency then
        s.setAlert l { (s.line l).alert with
          state := .raised, urgency := max (s.line l).alert.urgency urgency, reminderSince := s.freshReminder l, reminderDue := false }
      else s := by
  cases record : (s.line l).alert.state with
  | clear | raised | held => simp only [State.alertFrame, announced, record]
  | restocking => exact absurd record h

/-- R89: a CLEAR ALERT clears. -/
theorem alertFrame_of_clear {state : Nat} (announced : alertStateOf state = some .clear)
    (h : (s.line l).alert.state ≠ .restocking) (urgency : Nat) :
    s.alertFrame l state urgency =
      if alertPaired .clear urgency then
        s.setAlert l { (s.line l).alert with state := .clear, urgency := 0, reminderSince := none, reminderDue := false }
      else s := by
  cases record : (s.line l).alert.state with
  | clear | raised | held => simp only [State.alertFrame, announced, record]
  | restocking => exact absurd record h

/-- R89: an ALERT announces RAISED or CLEAR, and nothing else. -/
theorem alertFrame_of_other {state : Nat} (no_raised : alertStateOf state ≠ some .raised)
    (no_clear : alertStateOf state ≠ some .clear) (urgency : Nat) : s.alertFrame l state urgency = s := by
  cases announced : alertStateOf state with
  | none => simp only [State.alertFrame, announced]
  | some x =>
    cases x with
    | raised => exact absurd announced no_raised
    | clear => exact absurd announced no_clear
    | held | restocking => simp only [State.alertFrame, announced]

theorem alertFrame_keeps (state urgency : Nat) : Keeps s (s.alertFrame l state urgency) := by
  by_cases restocking : (s.line l).alert.state = .restocking
  · rw [alertFrame_of_restocking restocking]
    exact .refl s
  by_cases raised : alertStateOf state = some .raised
  · rw [alertFrame_of_raised raised restocking]
    split
    next paired =>
      refine setAlert_keeps fun lawful => ?_
      dsimp only
      rw [lawful.restockSince_of_ne restocking]
      exact alertLawful_of_raised (alertPaired_max lawful.1 (.inl rfl) paired) freshReminder_isSome (by simp)
    next => exact .refl s
  by_cases clear : alertStateOf state = some .clear
  · rw [alertFrame_of_clear clear restocking]
    split
    next =>
      refine setAlert_keeps fun lawful => ?_
      dsimp only
      rw [lawful.restockSince_of_ne restocking]
      exact alertLawful_of_still (.inl rfl) rfl
    next => exact .refl s
  · rw [alertFrame_of_other raised clear]
    exact .refl s

theorem ackLine_keeps : Keeps s (s.ackLine l) := by
  unfold State.ackLine
  dsimp only
  split
  next raised =>
    refine ((setAlert_keeps fun lawful => ?_).trans (withdraw_keeps _)).trans (evaluate_keeps l)
    have paired := lawful.1
    rw [raised] at paired
    rw [lawful.restockSince_of_ne (by simp [raised])]
    exact alertLawful_of_still (.inr rfl) paired
  next => exact .refl s

theorem restockBeginLine_keeps : Keeps s (s.restockBeginLine l) :=
  (setAlert_keeps fun _ => alertLawful_of_restocking).trans (withdraw_keeps _)

theorem endRestock_keeps : Keeps s (s.endRestock l) :=
  (setAlert_keeps fun _ => alertLawful_of_still (.inl rfl) rfl).trans (evaluate_keeps l)

theorem restockEndLine_keeps : Keeps s (s.restockEndLine l) := by
  unfold State.restockEndLine
  split
  · exact endRestock_keeps
  · exact .refl s

theorem articleCommand_keeps {act : State → Fin 12 → State} (h : ∀ s l, Keeps s (act s l)) (codes : List Code) :
    Keeps s (s.articleCommand act codes) :=
  Keeps.foldl (fun s c => by
    split
    · exact h _ _
    · exact .refl s) _ s

/-! ### The lead -/

theorem leads_iff : a.leads = true ↔ a.state = .solo ∨ a.state = .lead := by
  simp only [ArticleLine.leads, Bool.or_eq_true, beq_iff_eq, or_comm]

theorem reports_iff : a.reports = true ↔ a.state = .solo ∨ a.state = .lead ∨ a.state = .follow := by
  simp only [ArticleLine.reports, Bool.or_eq_true, leads_iff, beq_iff_eq, or_assoc]

theorem ne_vacant_of_reports (h : a.reports = true) : a.state ≠ .vacant := by
  obtain h | h | h := reports_iff.mp h <;> simp [h]

theorem isPeer_iff {number source : Nat} : isPeer number source = true ↔ 1 ≤ source ∧ source ≤ 30 ∧ source ≠ number := by
  simp [isPeer, and_assoc]

/-- A line that leads has this station as lead, and stands in no lead or claim timer. -/
theorem ArticleLine.Lawful.of_leads (lawful : a.Lawful number) (leads : a.leads = true) :
    a.lead = number ∧ a.leadSince = none ∧ a.claimSince = none := by
  obtain ⟨-, pairs⟩ := lawful
  obtain h | h := leads_iff.mp leads <;> rw [h] at pairs <;> exact pairs.2

/-- A line with this station as lead becomes SOLO or LEAD by its map. -/
theorem lawful_of_own_lead (map : MapLawful number a.map) :
    ({ a with state := if a.map.isEmpty then .solo else .lead, lead := number, leadSince := none, claimSince := none } :
      ArticleLine).Lawful number := by
  refine ⟨map, ?_⟩
  by_cases empty : a.map = []
  · simp [empty]
  · simp [empty]

theorem ownCountTaken_keeps : Keeps s (s.ownCountTaken l) := by
  unfold State.ownCountTaken
  dsimp only
  split
  next reports =>
    exact (setLine_keeps { vacant := fun h => absurd h (ne_vacant_of_reports reports)
                           lawful := fun _ lawful => lawful_of_own_lead lawful.1 }).trans (evaluate_keeps l)
  next => exact .refl s

theorem peerCountTaken_keeps (h : isPeer s.number peer = true) : Keeps s (s.peerCountTaken l peer count serial) := by
  obtain ⟨map, gaps, incomplete, entered, nonempty, lawful_map⟩ :=
    countEntry_cases (a := s.line l) (count := count) (serial := serial) (now := s.clock) h
  obtain ⟨-, -, other⟩ := isPeer_iff.mp h
  have follows (notVacant : (s.line l).state ≠ .vacant) : (s.line l).Keeps s.number
      { s.line l with
        map := map, serialGaps := gaps, incomplete := incomplete, state := .follow, lead := peer, leadSince := some s.clock
        claimSince := none } :=
    { vacant := fun h => absurd h notVacant, lawful := fun _ lawful => ⟨lawful_map lawful.1, nonempty, other⟩ }
  unfold State.peerCountTaken
  rw [entered]
  cases state : (s.line l).state with
  | vacant => exact .refl s
  | joining =>
    refine setLine_keeps
      { vacant := fun h => by simp [state] at h, lawful := fun _ ⟨map, pairs⟩ => ⟨lawful_map map, ?_⟩ }
    rw [state] at pairs
    exact ⟨other, pairs.2⟩
  | solo | lead | follow => exact (setLine_keeps (follows (by simp [state]))).trans (withdraw_keeps _)

theorem lineCount_keeps (source : Nat) : Keeps s (s.lineCount l source count serial) := by
  unfold State.lineCount
  split
  · exact ownCountTaken_keeps
  · split
    next peer => exact peerCountTaken_keeps peer
    next => exact .refl s

/-! ### TALLY entries -/

/-- A line after steps 1 to 3 of R76. -/
def ArticleLine.tallied (a : ArticleLine) (peer count now : Nat) : ArticleLine :=
  let b := a.tallyEntry peer count now
  { b with
    state := if a.state = .solo ∧ a.map.length < b.map.length then .lead else a.state
    leadSince := if a.lead = peer then some now else a.leadSince }

/-- A peer's TALLY entry keeps everything of a line but its map and its INCOMPLETE flag. -/
theorem tallyEntry_eq (a : ArticleLine) (peer count now : Nat) :
    a.tallyEntry peer count now = { a with
      map := (a.tallyEntry peer count now).map, incomplete := (a.tallyEntry peer count now).incomplete } := by
  unfold ArticleLine.tallyEntry
  split
  · rfl
  · split <;> rfl

/-- The count part of a TALLY entry: the line as steps 1 to 3 of R76 leave it, and step 4's evaluation. -/
theorem tallyCount_eq (s : State) (l : Fin 12) (peer count : Nat) :
    s.tallyCount l peer count =
      if ((s.line l).tallied peer count s.clock).aggregate ≠ (s.line l).aggregate ∧
          ((s.line l).tallied peer count s.clock).leads = true then
        (s.setLine l ((s.line l).tallied peer count s.clock)).evaluate l
      else s.setLine l ((s.line l).tallied peer count s.clock) := by
  have line : (let a := (s.line l).tallyEntry peer count s.clock
      let a := if a.state = .solo ∧ (s.line l).map.length < a.map.length then { a with state := LineState.lead } else a
      if a.lead = peer then { a with leadSince := some s.clock } else a) = (s.line l).tallied peer count s.clock := by
    rw [ArticleLine.tallied, tallyEntry_eq]
    dsimp only
    split <;> split <;> simp_all
  rw [← line]
  rfl

theorem tallied_state (used : a.state ≠ .vacant) : (a.tallied peer count now).state ≠ .vacant := by
  unfold ArticleLine.tallied
  dsimp only
  split
  · simp
  · exact used

theorem tallied_keeps (h : isPeer number peer = true) (used : a.state ≠ .vacant) : a.Keeps number (a.tallied peer count now) := by
  obtain ⟨map, incomplete, entered, nonempty, lawful_map⟩ := tallyEntry_cases (a := a) (count := count) (now := now) h
  obtain ⟨-, -, other⟩ := isPeer_iff.mp h
  unfold ArticleLine.tallied
  rw [entered]
  refine { vacant := fun vacant => absurd vacant used, lawful := fun _ ⟨lawful, pairs⟩ => ⟨lawful_map lawful, ?_⟩ }
  have foreign (lead : a.lead = number) : a.lead ≠ peer := fun h => other (h.symm.trans lead)
  cases state : a.state with
  | vacant => exact absurd state used
  | joining =>
    simp only [state] at pairs
    simpa using pairs
  | solo =>
    simp only [state] at pairs
    obtain ⟨empty, lead, stopped, claim⟩ := pairs
    have added : 0 < map.length := List.length_pos_iff.mpr nonempty
    simpa [empty, added, nonempty, foreign lead] using ⟨lead, stopped, claim⟩
  | lead =>
    simp only [state] at pairs
    obtain ⟨-, lead, stopped, claim⟩ := pairs
    simpa [nonempty, foreign lead] using ⟨lead, stopped, claim⟩
  | follow =>
    simp only [state] at pairs
    simpa [nonempty] using pairs.2

theorem tallyCount_keeps (h : isPeer s.number peer = true) (used : (s.line l).state ≠ .vacant) :
    Keeps s (s.tallyCount l peer count) := by
  rw [tallyCount_eq]
  split
  · exact (setLine_keeps (tallied_keeps h used)).trans (evaluate_keeps l)
  · exact setLine_keeps (tallied_keeps h used)

theorem tallyCount_line_state (used : (s.line l).state ≠ .vacant) :
    ((s.tallyCount l peer count).line l).state ≠ .vacant := by
  rw [tallyCount_eq]
  split
  · rw [(evaluate_sendSide _ l).lines l]
    simpa using tallied_state used
  · simpa using tallied_state used

theorem tallyLead_keeps (h : isPeer s.number peer = true) (used : (s.line l).state ≠ .vacant) (flag : Bool) :
    Keeps s (s.tallyLead l peer flag) := by
  obtain ⟨-, -, other⟩ := isPeer_iff.mp h
  unfold State.tallyLead
  dsimp only
  split
  · exact .refl s
  · split
    next none_leads =>
      refine setLine_keeps { lawful := fun number ⟨map, pairs⟩ => ⟨map, ?_⟩ }
      have positive := (number used).1
      cases state : (s.line l).state <;> simp only [state] at pairs ⊢
      case vacant => exact absurd state used
      case joining => exact ⟨other, trivial⟩
      case solo | lead => omega
      case follow => exact ⟨pairs.1, other⟩
    next =>
      split
      · exact requestCount_keeps _ _ _
      · exact .refl s

theorem peerTallyTaken_keeps (h : isPeer s.number peer = true) (used : (s.line l).state ≠ .vacant) (e : TallyEntry) :
    Keeps s (s.peerTallyTaken l peer e) := by
  have counted := tallyCount_keeps (count := countField e.count) h used
  have lead := tallyLead_keeps (s := s.tallyCount l peer (countField e.count)) (counted.number ▸ h)
    (tallyCount_line_state used) (tallyLeadFlag e)
  unfold State.peerTallyTaken
  dsimp only
  split
  · exact (counted.trans lead).trans (adopt_keeps _ _)
  · exact counted.trans lead

theorem lineTally_keeps (used : (s.line l).state ≠ .vacant) (source : Nat) (e : TallyEntry) :
    Keeps s (s.lineTally l source e) := by
  unfold State.lineTally
  split
  next peer => exact peerTallyTaken_keeps peer used e
  next => exact .refl s

/-! ### Leaving JOINING -/

/-- A line as leaving JOINING makes it (R81). -/
def ArticleLine.left (a : ArticleLine) (number now : Nat) : ArticleLine :=
  { a with
    state := if a.map.isEmpty then .solo else .follow
    lead := if a.map.isEmpty then number else a.lead
    leadSince := if a.map.isEmpty then none else a.leadSince
    holdSince := some now }

theorem leaveJoining_eq (s : State) (l : Fin 12) :
    s.leaveJoining l =
      (s.setLine l ((s.line l).left s.number s.clock)).request (.count (s.line l).config.code false none) := by
  unfold State.leaveJoining ArticleLine.left
  dsimp only
  cases (s.line l).map.isEmpty <;> simp [State.requestCount]

theorem left_keeps (joining : a.state = .joining) : a.Keeps number (a.left number now) := by
  refine { vacant := fun h => by simp [joining] at h, lawful := fun _ ⟨map, pairs⟩ => ⟨map, ?_⟩ }
  simp only [joining] at pairs
  by_cases empty : a.map = []
  · simpa [ArticleLine.left, empty] using pairs.2
  · simpa [ArticleLine.left, empty] using pairs.1

theorem leaveJoining_keeps (joining : (s.line l).state = .joining) : Keeps s (s.leaveJoining l) := by
  rw [leaveJoining_eq]
  exact (setLine_keeps (left_keeps joining)).trans (request_keeps _)

theorem testJoining_keeps : Keeps s (s.testJoining l) := by
  unfold State.testJoining
  split
  next may => exact leaveJoining_keeps (by simp [State.mayLeaveJoining] at may; exact may.1.1)
  next => exact .refl s

theorem testJoiningOfCell_keeps (i : Fin 12) : Keeps s (s.testJoiningOfCell i) := by
  unfold State.testJoiningOfCell
  split
  · exact testJoining_keeps
  · exact .refl s

theorem leaveIfJoining_keeps : Keeps s (s.leaveIfJoining l) := by
  unfold State.leaveIfJoining
  split
  next joining => exact leaveJoining_keeps joining
  next => exact .refl s

/-! ### Silent peers and timers -/

/-- A line with its lead lost to silence at this moment (R82, R83). -/
def ArticleLine.leadLost (a : ArticleLine) (now : Nat) : ArticleLine :=
  { a with lead := 0, leadSince := none, claimSince := if a.state = .follow then some now else a.claimSince }

theorem loseLead_eq (s : State) (l : Fin 12) : s.loseLead l = s.setLine l ((s.line l).leadLost s.clock) := by
  unfold State.loseLead ArticleLine.leadLost
  dsimp only
  split
  next follow => simp [State.startClaim, follow]
  next => simp

/-- A line that does not lead may lose its lead. -/
theorem leadLost_lawful (not_leading : a.leads = false) (range : a.state ≠ .vacant → 1 ≤ number ∧ number ≤ 30)
    (lawful : a.Lawful number) : (a.leadLost now).Lawful number := by
  obtain ⟨map, pairs⟩ := lawful
  refine ⟨map, ?_⟩
  unfold ArticleLine.leadLost
  cases state : a.state <;> simp only [state] at pairs ⊢
  case vacant => exact ⟨pairs.1, trivial⟩
  case joining =>
    have positive := (range (by simp [state])).1
    exact ⟨by omega, by simpa using pairs.2⟩
  case solo | lead => simp [ArticleLine.leads, state] at not_leading
  case follow =>
    have positive := (range (by simp [state])).1
    exact ⟨pairs.1, by omega⟩

/-- A line with a peer's entry marked stale. -/
def ArticleLine.staled (a : ArticleLine) (peer : Nat) : ArticleLine :=
  { a with map := updateEntry a.map peer (fun e => { e with stale := true }) }

theorem staled_keeps : a.Keeps number (a.staled peer) := by
  refine { lawful := fun _ ⟨map, pairs⟩ => ⟨MapLawful.updateEntry map fun _ => rfl, ?_⟩ }
  have empty : (a.staled peer).map = [] ↔ a.map = [] := by simp [ArticleLine.staled, updateEntry]
  unfold ArticleLine.staled at empty ⊢
  cases state : a.state <;> simp only [state, ne_eq, empty] at pairs ⊢ <;> exact pairs

theorem markStale_eq (s : State) (l : Fin 12) (peer : Nat) :
    s.markStale l peer =
      s.setLine l (if (s.line l).lead = peer then ((s.line l).staled peer).leadLost s.clock else (s.line l).staled peer) := by
  unfold State.markStale
  dsimp only
  split
  next => simp [loseLead_eq, ArticleLine.staled]
  next => rfl

theorem loseLead_keeps (other : (s.line l).Lawful s.number → (s.line l).leads = false) : Keeps s (s.loseLead l) := by
  rw [loseLead_eq]
  exact setLine_keeps { lawful := fun range lawful => leadLost_lawful (other lawful) range lawful }

theorem markStale_keeps (other : (s.line l).Lawful s.number → (s.line l).lead = peer → (s.line l).leads = false) :
    Keeps s (s.markStale l peer) := by
  rw [markStale_eq]
  refine setLine_keeps ?_
  split
  next lead =>
    exact { lawful := fun range lawful =>
      leadLost_lawful (a := (s.line l).staled peer) (other lawful lead) range (staled_keeps.lawful range lawful) }
  next => exact staled_keeps

/-- A line without a peer's entry: LEAD or FOLLOW with an empty map becomes SOLO (R85). -/
def ArticleLine.dropped (a : ArticleLine) (number peer : Nat) : ArticleLine :=
  let map := a.map.filter (fun e => e.station != peer)
  if map = [] ∧ (a.state = .lead ∨ a.state = .follow) then
    { a with map := [], state := .solo, lead := number, leadSince := none, claimSince := none }
  else { a with map := map }

theorem dropEntry_eq (s : State) (l : Fin 12) (peer : Nat) :
    s.dropEntry l peer =
      if ((s.line l).dropped s.number peer).leads = true ∧
          (((s.line l).dropped s.number peer).aggregate ≠ (s.line l).aggregate ∨
            ((s.line l).dropped s.number peer).map = [] ∧ (s.line l).alert.reminderDue = true) then
        (s.setLine l ((s.line l).dropped s.number peer)).evaluate l
      else s.setLine l ((s.line l).dropped s.number peer) := by
  unfold State.dropEntry ArticleLine.dropped
  by_cases empty : (s.line l).map.filter (fun e => e.station != peer) = []
  · by_cases state : (s.line l).state = .lead ∨ (s.line l).state = .follow
    · simp [empty, state]
    · simp [empty, state]
  · simp [empty]

theorem dropped_keeps : a.Keeps number (a.dropped number peer) := by
  unfold ArticleLine.dropped
  dsimp only
  split
  next emptied =>
    refine { vacant := fun h => ?_, lawful := fun _ ⟨map, _⟩ => ⟨⟨Nat.zero_le _, List.nodup_nil, by simp⟩, ?_⟩ }
    · simp [h] at emptied
    · simp
  next stays =>
    refine { lawful := fun _ ⟨map, pairs⟩ => ⟨MapLawful.sublist map List.filter_sublist, ?_⟩ }
    cases state : a.state <;> simp only [state] at pairs stays ⊢
    case vacant | solo => simpa [pairs.1] using pairs.2
    case joining => exact pairs
    case lead | follow => exact ⟨by simpa using stays, pairs.2⟩

theorem dropEntry_keeps : Keeps s (s.dropEntry l peer) := by
  rw [dropEntry_eq]
  split
  · exact (setLine_keeps dropped_keeps).trans (evaluate_keeps l)
  · exact setLine_keeps dropped_keeps

/-- A peer in a lawful line's map is not the lead of a line that leads. -/
theorem leads_eq_false_of_entry {e : MapEntry} (lawful : a.Lawful number) (known : a.entry peer = some e) (lead : a.lead = peer) :
    a.leads = false := by
  by_contra leads
  have own := (lawful.of_leads (Bool.eq_true_of_not_eq_false leads)).1
  obtain ⟨-, -, peers⟩ := lawful.1
  obtain ⟨-, -, other⟩ := isPeer_iff.mp (peers e (List.mem_of_find?_eq_some known))
  have station : e.station = peer := by simpa using List.find?_some known
  exact other (by rw [station, ← lead, own])

/-- A line whose lead timer runs does not lead. -/
theorem leads_eq_false_of_leadSince {since : Nat} (lawful : a.Lawful number) (runs : a.leadSince = some since) :
    a.leads = false := by
  by_contra leads
  have stopped := (lawful.of_leads (Bool.eq_true_of_not_eq_false leads)).2.1
  simp [stopped] at runs

theorem reachStale_keeps : Keeps s (s.reachStale l peer) := by
  unfold State.reachStale
  split
  · exact .refl s
  next known =>
    split
    · exact (advanceTo_keeps _).trans (markStale_keeps fun lawful lead => leads_eq_false_of_entry lawful known lead)
    · exact .refl s

theorem reachRemoved_keeps : Keeps s (s.reachRemoved l peer) := by
  unfold State.reachRemoved
  split
  · exact .refl s
  · split
    · exact (advanceTo_keeps _).trans dropEntry_keeps
    · exact .refl s

theorem leadTimerEnd_keeps : Keeps s (s.leadTimerEnd l) := by
  unfold State.leadTimerEnd
  split
  · exact .refl s
  next runs =>
    split
    next =>
      dsimp only
      split
      · exact (advanceTo_keeps _).trans (markStale_keeps fun lawful _ => leads_eq_false_of_leadSince lawful runs)
      · exact (advanceTo_keeps _).trans (loseLead_keeps fun lawful => leads_eq_false_of_leadSince lawful runs)
    next => exact .refl s

/-- Any line may stop its claim timer. -/
theorem claimStopped_keeps : a.Keeps number { a with claimSince := none } := by
  refine { lawful := fun _ ⟨map, pairs⟩ => ⟨map, ?_⟩ }
  cases state : a.state <;> simp only [state] at pairs ⊢
  case vacant | follow => exact pairs
  case joining => exact ⟨pairs.1, trivial⟩
  case solo | lead => exact ⟨pairs.1, pairs.2.1, pairs.2.2.1, trivial⟩

theorem claimTimerEnd_keeps : Keeps s (s.claimTimerEnd l) := by
  unfold State.claimTimerEnd
  split
  · exact .refl s
  next since _ =>
    split
    next =>
      have stops : Keeps s ((s.advanceTo (since + s.number * Config.claimStep)).setLine l { s.line l with claimSince := none }) :=
        (advanceTo_keeps _).trans (setLine_keeps claimStopped_keeps)
      dsimp only
      split
      · exact stops.trans (requestCount_keeps _ _ _)
      · exact stops
    next => exact .refl s

theorem startHoldEnd_keeps : Keeps s (s.startHoldEnd l) := by
  unfold State.startHoldEnd
  split
  · exact .refl s
  · split
    · exact ((advanceTo_keeps _).trans (setLine_keeps {})).trans (evaluate_keeps l)
    · exact .refl s

theorem reminderEnd_keeps : Keeps s (s.reminderEnd l) := by
  unfold State.reminderEnd
  split
  · exact .refl s
  next runs =>
    split
    next =>
      refine ((advanceTo_keeps _).trans (setAlert_keeps fun lawful => ?_)).trans (evaluate_keeps l)
      obtain ⟨paired, reminds, restocks, due⟩ : (s.line l).AlertLawful := lawful
      have raised := reminds.mp (by rw [runs]; rfl)
      exact ⟨paired, iff_of_true rfl raised, restocks, fun _ => raised⟩
    next => exact .refl s

theorem restockTimerEnd_keeps : Keeps s (s.restockTimerEnd l) := by
  unfold State.restockTimerEnd
  split
  · exact .refl s
  · split
    · exact (advanceTo_keeps _).trans endRestock_keeps
    · exact .refl s

theorem expireOldest_keeps : Keeps s s.expireOldest := by
  unfold State.expireOldest
  split
  · exact .refl s
  next e rest split =>
    split
    next =>
      refine { log := fun ⟨length, entries⟩ => ?_ }
      rw [split] at length entries
      exact ⟨(Nat.le_succ _).trans length, fun d hd => entries d (List.mem_cons_of_mem _ hd)⟩
    next => exact .refl s

theorem endCensusWindow_keeps : Keeps s s.endCensusWindow := by
  unfold State.endCensusWindow
  split
  · split
    · exact Keeps.trans (t := { s.advanceTo _ with census := .ended _ }) {} (Keeps.foldl (fun _ _ => testJoining_keeps) _ _)
    · exact .refl s
  · exact .refl s

theorem endJoining_keeps : Keeps s s.endJoining := by
  unfold State.endJoining
  split
  · split
    · exact (advanceTo_keeps _).trans (Keeps.foldl (fun _ _ => leaveIfJoining_keeps) _ _)
    · exact .refl s
  · exact .refl s

theorem reachTallyPhase_keeps : Keeps s s.reachTallyPhase := by
  unfold State.reachTallyPhase
  split
  · exact Keeps.trans (t := { s.advanceTo s.tallyAt with tallyAt := s.tallyAt + Config.minute }) {}
      (requestTally_keeps.trans minuteEvaluations_keeps)
  · exact .refl s

end Sys2Proof.Machine
end

section
/-! What the evaluator and the weighing front end do to a used cell keeps its laws. -/

namespace Sys2Proof.Machine

variable {s : State} {i : Fin 12} {m n step : Int} {code : Conversion}

/-! ### The evaluator -/

theorem clampedCount_le (v : Int) : (clampInt 0 Config.countMax v).toNat ≤ 9999 := by
  rw [clampInt_eq _ _ _ (by decide), Config.countMax]
  omega

/-- A clamped balance lies within its bounds (R31). -/
theorem clampedBalance_mem (v : Int) :
    -Config.balanceMax ≤ clampInt (-Config.balanceMax) Config.balanceMax v ∧
      clampInt (-Config.balanceMax) Config.balanceMax v ≤ Config.balanceMax := by
  rw [clampInt_eq _ _ _ (by decide), Config.balanceMax]
  omega

theorem zero_balance : -Config.balanceMax ≤ 0 ∧ 0 ≤ Config.balanceMax := by decide

/-- A used cell's record changes, and then its count. -/
theorem setCell_setCount_keeps {c : CellRecord} {count : Nat} (h : (s.cell i).Keeps c) (range : count ≤ 9999) :
    Keeps s ((s.setCell i c).setCount i count) :=
  (setCell_keeps h).trans (setCount_keeps (by simpa using h.used) range)

theorem rebase_keeps (used : (s.cell i).state ≠ .unused) : Keeps s (s.rebase i m) := setCell_keeps { used := used }

theorem recountCell_keeps (used : (s.cell i).state ≠ .unused) : Keeps s (s.recountCell i m) := by
  have recounted (clamped inexact : Bool) (k : Int) :
      Keeps s ((s.setCell i { s.cell i with
        baseline := m, balance := 0, countClamped := clamped, recountInexact := inexact }).setCount i
          (clampInt 0 Config.countMax k).toNat) :=
    setCell_setCount_keeps
      { used := used
        bounded := fun ⟨window, strays, count, _, _, run⟩ => ⟨window, strays, count, zero_balance.1, zero_balance.2, run⟩ }
      (clampedCount_le k)
  unfold State.recountCell
  dsimp only
  split
  · exact recounted _ _ _
  · exact (recounted _ _ _).trans (requestCountOfCell_keeps _ _)

theorem zeroCell_keeps (used : (s.cell i).state ≠ .unused) : Keeps s (s.zeroCell i m) := by
  have zeroed : Keeps s ((s.setCell i { s.cell i with
      tray := clampInt 0 Config.trayMax m, baseline := m, balance := 0, strays := [], countClamped := false
      recountInexact := false }).setCount i 0) :=
    setCell_setCount_keeps
      { used := used
        bounded := fun ⟨window, _, count, _, _, run⟩ => ⟨window, Nat.zero_le _, count, zero_balance.1, zero_balance.2, run⟩ }
      (Nat.zero_le _)
  unfold State.zeroCell
  dsimp only
  split
  · exact zeroed
  · exact zeroed.trans (requestCountOfCell_keeps _ _)

theorem countUnits_keeps (used : (s.cell i).state ≠ .unused) : Keeps s (s.countUnits i m n) :=
  setCell_setCount_keeps { used := used } (clampedCount_le _)

/-- A unit number is 1 to 255 in magnitude (R26). -/
theorem unitNumber_range {u t : Nat} (found : unitNumber step u t = some n) : n ≠ 0 ∧ n.natAbs ≤ 255 := by
  rw [unitNumber_eq] at found
  split at found
  next passes =>
    obtain ⟨nonzero, bounded, -⟩ := passes
    obtain rfl := Option.some.inj found
    exact ⟨nonzero, by rw [Int.abs_eq_natAbs] at bounded; omega⟩
  next => cases found

theorem pick_keeps (used : (s.cell i).state ≠ .unused) (units : n ≠ 0 ∧ n.natAbs ≤ 255) : Keeps s (s.pick i m n) := by
  have joined : Keeps s ((s.countUnits i m n).logJoin (s.ownDeparture i (magnitude n).toNat)) := by
    refine (countUnits_keeps used).trans (logJoin_keeps ?_)
    simp only [State.ownDeparture, magnitude_abs, Int.abs_eq_natAbs, Int.toNat_natCast]
    omega
  exact (joined.trans (t := (s.countUnits i m n).logJoin _) {}).trans (requestCountOfCell_keeps _ _)

theorem takeReturn_keeps (used : (s.cell i).state ≠ .unused) : Keeps s (s.takeReturn i m n) := by
  unfold State.takeReturn
  dsimp only
  split
  · exact countUnits_keeps used
  · exact (countUnits_keeps used).trans (requestCountOfCell_keeps _ _)

theorem reverseBalance_keeps (used : (s.cell i).state ≠ .unused) : Keeps s (s.reverseBalance i m) :=
  setCell_keeps
    { used := used
      bounded := fun ⟨window, strays, count, _, _, run⟩ => ⟨window, strays, count, zero_balance.1, zero_balance.2, run⟩ }

theorem removeStray_keeps (used : (s.cell i).state ≠ .unused) (x : StrayRecord) : Keeps s (s.removeStray i m step x) := by
  refine Keeps.trans (setCell_keeps ?_) (request_keeps _)
  refine { used := used, bounded := fun ⟨window, strays, rest⟩ => ⟨window, ?_, rest⟩ }
  have fewer := (List.eraseP_sublist (p := strayFits step) (l := (s.cell i).strays.reverse)).length_le
  rw [List.length_reverse] at fewer ⊢
  exact fewer.trans strays

/-- A stray is placed on a cell of fewer than four alone (R30). -/
theorem strays_of_departureToPlace {e : Departure} (found : s.departureToPlace i step = some e) :
    (s.cell i).strays.length < 4 := by
  unfold State.departureToPlace at found
  split at found
  next room => exact room.2.2
  next => cases found

theorem placeStray_keeps (used : (s.cell i).state ≠ .unused) (e : Departure) (room : (s.cell i).strays.length < 4) :
    Keeps s (s.placeStray i m step e) := by
  refine Keeps.trans (Keeps.trans (setCell_keeps ?_) (consumeUnit_keeps _)) (request_keeps _)
  exact { used := used, bounded := fun ⟨window, _, rest⟩ => ⟨window, by rw [List.length_append]; exact room, rest⟩ }

theorem doubt_keeps (used : (s.cell i).state ≠ .unused) : Keeps s (s.doubt i m step) :=
  setCell_keeps
    { used := used
      bounded := fun ⟨window, strays, count, _, _, run⟩ =>
        ⟨window, strays, count, (clampedBalance_mem _).1, (clampedBalance_mem _).2, run⟩ }

theorem testSequence_keeps (used : (s.cell i).state ≠ .unused) : Keeps s (s.testSequence i m step) := by
  by_cases reverses : reversalPasses (s.cell i) step (s.configOfCell i).tolerance = true
  · rw [testSequence_of_reversal reverses]
    exact reverseBalance_keeps used
  obtain ⟨x, -, removal⟩ | ⟨-, ⟨n, found, counted⟩ | ⟨-, ⟨e, found, placement⟩ | ⟨-, doubt⟩⟩⟩ :=
    testSequence_cases m (Bool.eq_false_iff.mpr reverses)
  · rw [removal]
    exact removeStray_keeps used x
  · rw [counted]
    split
    · exact pick_keeps used (unitNumber_range found)
    · exact takeReturn_keeps used
  · rw [placement]
    exact placeStray_keeps used e (strays_of_departureToPlace found)
  · rw [doubt]
    exact doubt_keeps used

/-- A recount keeps the cell's state. -/
theorem recountCell_cell_state : ((s.recountCell i m).cell i).state = (s.cell i).state := by
  unfold State.recountCell
  dsimp only
  split <;> simp

theorem judge_keeps (used : (s.cell i).state ≠ .unused) : Keeps s (s.judge i m) := by
  unfold State.judge
  dsimp only
  split
  · exact ((recountCell_keeps used).trans (setCell_keeps { used := by rwa [recountCell_cell_state] })).trans
      (testJoiningOfCell_keeps i)
  · split
    · exact rebase_keeps used
    · exact testSequence_keeps used

/-! ### Conversions -/

/-- A window holds at most eight weights behind every append (R5). -/
theorem appendSample_length_le (window : List Sample) (x : Sample) : (appendSample window x).length ≤ 8 := by
  simp only [appendSample, List.length_drop, Config.windowSize]
  omega

/-- A weighed cell's record with its appended weight, its fault run below four. -/
theorem append_bounded {c : CellRecord} (h : c.Bounded) (run : runAfter c.faultRun code < 4) : (c.append code).Bounded := by
  obtain ⟨-, strays, count, low, high, -⟩ := h
  exact ⟨appendSample_length_le _ _, strays, count, low, high, run⟩

theorem append_keeps {c : CellRecord} (used : c.state ≠ .unused) (run : runAfter c.faultRun code < 4) :
    c.Keeps (c.append code) := { used := used, bounded := fun h => append_bounded h run }

theorem warm_keeps (c : CellRecord) (conversions : Nat) : c.Keeps (c.warm conversions) where
  used := by simp [CellRecord.warm]
  bounded := fun ⟨_, strays, count, low, high, _⟩ => ⟨Nat.zero_le _, strays, count, low, high, Nat.zero_lt_succ _⟩

theorem recover_keeps {c : CellRecord} (used : c.state ≠ .unused) : c.Keeps (c.recover code) := by
  unfold CellRecord.recover
  split
  · split
    next => exact warm_keeps c _
    next few =>
      exact { used := used
              bounded := fun ⟨window, strays, count, low, high, _⟩ => ⟨window, strays, count, low, high, not_le.mp few⟩ }
  · exact { used := used
            bounded := fun ⟨window, strays, count, low, high, _⟩ =>
              ⟨window, strays, count, low, high, Nat.zero_lt_succ _⟩ }

theorem enterFault_keeps (c : CellRecord) : c.Keeps c.enterFault where
  used := by simp [CellRecord.enterFault]
  bounded := fun ⟨_, strays, count, low, high, _⟩ => ⟨Nat.zero_le _, strays, count, low, high, Nat.zero_lt_succ _⟩

/-- A bridge fault discards the weight appended before it (R15). -/
theorem bridgeFault_setCell_append (s : State) (i : Fin 12) (code : Conversion) :
    (s.setCell i ((s.cell i).append code)).bridgeFault i = s.bridgeFault i := by
  simp [State.bridgeFault, CellRecord.append, CellRecord.enterFault]

theorem bridgeFault_keeps : Keeps s (s.bridgeFault i) :=
  ((setCell_keeps (enterFault_keeps _)).trans (request_keeps _)).trans (testJoiningOfCell_keeps i)

theorem enterRest_keeps : Keeps s (s.enterRest i) :=
  (setCell_keeps { used := by simp }).trans (judge_keeps (by simp))

theorem enterMotion_keeps : Keeps s (s.enterMotion i) := setCell_keeps { used := by simp }

theorem testWindow_keeps : Keeps s (s.testWindow i) := by
  unfold State.testWindow
  dsimp only
  split
  next warming =>
    split
    · exact setCell_keeps { used := by simp [warming] }
    · split
      · exact (setCell_keeps { used := by simp [warming] }).trans enterRest_keeps
      · exact (setCell_keeps { used := by simp [warming] }).trans enterMotion_keeps
  next rest =>
    split
    · split
      · exact judge_keeps (by simp [rest])
      · exact .refl s
    · exact enterMotion_keeps
  next motion =>
    split
    · exact enterRest_keeps
    · split
      · exact setCell_keeps { used := by simp }
      · exact setCell_keeps { used := by simp [motion] }
  next =>
    split
    · exact enterRest_keeps
    · exact .refl s
  all_goals exact .refl s

/-- A cell in one of the four states in which it is weighed (Table 1-3). -/
def CellRecord.weighed (c : CellRecord) : Prop :=
  c.state = .warming ∨ c.state = .motion ∨ c.state = .rest ∨ c.state = .unsteady

theorem convertCell_of_weighed (weighed : (s.cell i).weighed) :
    s.convertCell i code =
      if 4 ≤ runAfter (s.cell i).faultRun code then s.bridgeFault i
      else (s.setCell i ((s.cell i).append code)).testWindow i := by
  rw [← bridgeFault_setCell_append s i code]
  unfold State.convertCell
  obtain h | h | h | h := weighed <;> simp only [h] <;> rfl

theorem convertCell_keeps : Keeps s (s.convertCell i code) := by
  cases state : (s.cell i).state with
  | unused =>
    rw [State.convertCell]
    simp only [state]
    exact .refl s
  | fault =>
    rw [State.convertCell]
    simp only [state]
    exact setCell_keeps (recover_keeps (by simp [state]))
  | warming | motion | rest | unsteady =>
    rw [convertCell_of_weighed (by simp [CellRecord.weighed, state])]
    split
    next => exact bridgeFault_keeps
    next few => exact (setCell_keeps (append_keeps (by simp [state]) (not_le.mp few))).trans testWindow_keeps

theorem convert_keeps : Keeps s (s.convert code) := by
  unfold State.convert
  split
  · exact convertCell_keeps.trans (t := s.convertCell s.rotation code) {}
  · exact .refl s

end Sys2Proof.Machine
end

section
/-! What a frame, an event of the line, a key, a sample and an image make of the laws: what the blocks can do with a frame, and the
changes of station state (Table 10-3). -/

namespace Sys2Proof.Machine

variable {s t u : State} {l : Fin 12} {source : Nat} {code : Code}

/-! ### Frames that are taken -/

/-- R128: the test of a code raises a counter where the code reaches no line, and names the line that it reaches. -/
theorem filterCode_cases (s : State) (code : Code) :
    (∃ l, s.lineOf code = some l ∧ s.filterCode code = (s, some l)) ∨
    s.filterCode code = (s.countUnknown, none) ∨ s.filterCode code = (s.countFiltered, none) := by
  unfold State.filterCode
  split
  · cases s.lineOf code with
    | some l => exact .inl ⟨l, rfl, rfl⟩
    | none => exact .inr (.inl rfl)
  · exact .inr (.inr rfl)

/-- The line of a code is not VACANT and holds the code (R128). -/
theorem lineOf_some (h : s.lineOf code = some l) : (s.line l).state ≠ .vacant ∧ (s.line l).config.code = code := by
  simpa using List.find?_some h

theorem filterCode_keeps : Keeps s (s.filterCode code).1 := by
  obtain ⟨l, -, h⟩ | h | h := filterCode_cases s code <;> rw [h]
  · exact .refl s
  · exact countUnknown_keeps
  · exact countFiltered_keeps

theorem takePart_keeps (part : Option DeparturePart) : Keeps s (s.takePart source code part) := by
  unfold State.takePart
  split
  · exact .refl s
  next p =>
    split
    next takes => exact logJoin_keeps ⟨Nat.pos_of_ne_zero takes.2, Nat.le_of_lt_succ p.units.isLt⟩
    next => exact .refl s

theorem takeCount_keeps (b : CountBody) : Keeps s (s.takeCount source b) := by
  unfold State.takeCount
  refine Keeps.trans (takePart_keeps b.part) (Keeps.trans filterCode_keeps (t := ((s.takePart source b.code b.part).filterCode b.code).1) ?_)
  dsimp only
  split
  · exact lineCount_keeps _
  · exact .refl _

theorem takeAlert_keeps (b : AlertBody) : Keeps s (s.takeAlert source b) := by
  unfold State.takeAlert
  refine Keeps.trans (filterCode_keeps (code := b.code)) ?_
  dsimp only
  split
  · split
    · exact alertFrame_keeps _ _
    · exact .refl _
  · exact .refl _

theorem takeStray_keeps (b : StrayBody) : Keeps s (s.takeStray source b) := by
  unfold State.takeStray
  refine Keeps.trans (filterCode_keeps (code := b.code)) ?_
  dsimp only
  split
  · exact consumeUnit_keeps _
  · exact .refl _

theorem takeTallyEntry_keeps (e : TallyEntry) : Keeps s (s.takeTallyEntry source e) := by
  unfold State.takeTallyEntry
  obtain ⟨l, reached, h⟩ | h | h := filterCode_cases s e.code <;> rw [h]
  · exact lineTally_keeps (lineOf_some reached).1 source e
  · exact countUnknown_keeps
  · exact countFiltered_keeps

theorem takeTally_keeps (entries : List TallyEntry) : Keeps s (s.takeTally source entries) :=
  Keeps.foldl (fun _ e => takeTallyEntry_keeps e) entries s

/-- The codes of a CENSUS are tested one by one. -/
def censusTurn (r : State × Bool) (c : Code) : State × Bool :=
  match (r.1.filterCode c).2 with
  | some l => ((r.1.filterCode c).1, r.2 || ((r.1.filterCode c).1.line l).reports)
  | none => ((r.1.filterCode c).1, r.2)

theorem filterCensus_eq (s : State) (codes : List Code) : s.filterCensus codes = codes.foldl censusTurn (s, false) := rfl

theorem censusTurn_fst (r : State × Bool) (c : Code) : (censusTurn r c).1 = (r.1.filterCode c).1 := by
  unfold censusTurn
  split <;> rfl

theorem censusTurns_keeps (codes : List Code) (r : State × Bool) : Keeps r.1 (codes.foldl censusTurn r).1 := by
  induction codes generalizing r with
  | nil => exact .refl _
  | cons c rest ih =>
    have turn : Keeps r.1 (censusTurn r c).1 := censusTurn_fst r c ▸ filterCode_keeps
    exact turn.trans (ih _)

theorem takeCensus_keeps (codes : List Code) : Keeps s (s.takeCensus source codes) := by
  have tested : Keeps s (s.filterCensus codes).1 := censusTurns_keeps codes (s, false)
  unfold State.takeCensus
  dsimp only
  split
  · exact tested.trans requestTally_keeps
  · exact tested

/-! ### Commands -/

theorem reply_keeps (command : CommandCode) (result : ResultCode) : Keeps s (s.reply command result) :=
  (setLast_keeps _ _).trans (request_keeps _)

theorem runQuery_keeps (clear : Bool) : Keeps s (s.runQuery clear) := by
  unfold State.runQuery
  dsimp only
  split
  · exact (reply_keeps _ _).trans (counters_keeps fun _ => by simp [Counters.Bounded, Counters.zero])
  · exact reply_keeps _ _

/-- RECOUNT and ZERO name a used cell (R38). -/
theorem usedCell_used {number : Option Nat} {i : Fin 12} (named : s.usedCell number = some i) : (s.cell i).state ≠ .unused := by
  unfold State.usedCell at named
  split at named
  · cases named
  · split at named
    · split at named
      next => cases named
      next used => exact Option.some.inj named ▸ used
    · cases named

theorem runRecount_keeps (cell : Option Nat) : Keeps s (s.runRecount cell) := by
  refine Keeps.trans ?_ (reply_keeps _ _)
  unfold State.recountCommand
  split
  · exact .refl s
  next named =>
    split
    · exact recountCell_keeps (usedCell_used named)
    · exact .refl s

theorem runZero_keeps (cell : Option Nat) : Keeps s (s.runZero cell) := by
  refine Keeps.trans ?_ (reply_keeps _ _)
  unfold State.zeroCommand
  split
  · exact .refl s
  next named =>
    split
    · exact zeroCell_keeps (usedCell_used named)
    · exact .refl s

/-- A COMMAND RESTART that this station obeys: addressed to it in RUNNING, with target 0 in UNCONFIGURED (R139, R140). -/
def State.ObeysRestart (s : State) (f : Frame) : Prop :=
  ∃ b, f.body = .command b ∧ commandOf b.code = some .restart ∧
    (s.station = .running ∧ b.target.toNat = s.number ∨ s.station = .unconfigured ∧ b.target = 0)

/-- What can become of a station with this frame: its laws are kept; or the frame is a RESTART that it obeys, by a restart pending or
by the full start. -/
inductive Taken (f : Frame) (s : State) : State → Prop
  | kept {t : State} (h : Keeps s t) : Taken f s t
  | marked {t : State} (h : Keeps s t) (age : Nat) (restarts : s.ObeysRestart f) (running : s.station = .running) :
      Taken f s { t with restartPending := some age }
  | started {t : State} (h : Keeps s t) (restarts : s.ObeysRestart f) : Taken f s t.fullStart

theorem State.ObeysRestart.of_keeps {f : Frame} (h : Keeps s t) (restarts : t.ObeysRestart f) : s.ObeysRestart f := by
  obtain ⟨b, body, command, address⟩ := restarts
  rw [h.station, h.number] at address
  exact ⟨b, body, command, address⟩

theorem Taken.of_keeps {f : Frame} (h : Keeps s t) (taken : Taken f t u) : Taken f s u := by
  cases taken with
  | kept k => exact .kept (h.trans k)
  | marked k age restarts running => exact .marked (h.trans k) age (restarts.of_keeps h) (h.station ▸ running)
  | started k restarts => exact .started (h.trans k) (restarts.of_keeps h)

theorem runRestart_cases (s : State) :
    Keeps s s.runRestart ∨ ∃ t age, Keeps s t ∧ s.runRestart = { t with restartPending := some age } := by
  unfold State.runRestart
  split
  · exact .inr ⟨_, _, reply_keeps _ _, rfl⟩
  · exact .inl (setLast_keeps _ _)

theorem stationCommand_keeps {command : CommandCode} {run : State → State} (h : Keeps s (run s)) :
    Keeps s (s.stationCommand command run) := by
  unfold State.stationCommand
  split
  · exact reply_keeps _ _
  · exact h

theorem takeCommand_taken {f : Frame} {b : CommandBody} (body : f.body = .command b) : Taken f s (s.takeCommand b) := by
  unfold State.takeCommand
  split
  next running =>
    split
    · exact .kept (.refl s)
    · exact .kept (articleCommand_keeps (fun _ _ => ackLine_keeps) _)
    · exact .kept (articleCommand_keeps (fun _ _ => restockBeginLine_keeps) _)
    · exact .kept (articleCommand_keeps (fun _ _ => restockEndLine_keeps) _)
    · split
      · exact .kept (stationCommand_keeps (runQuery_keeps _))
      · exact .kept (.refl s)
    · split
      · exact .kept (stationCommand_keeps (runRecount_keeps _))
      · exact .kept (.refl s)
    · split
      · exact .kept (stationCommand_keeps (runZero_keeps _))
      · exact .kept (.refl s)
    next restart =>
      split
      next address =>
        unfold State.stationCommand
        split
        · exact .kept (reply_keeps _ _)
        · obtain keeps | ⟨t, age, keeps, marked⟩ := runRestart_cases s
          · exact .kept keeps
          · rw [marked]
            exact .marked keeps age ⟨b, body, restart, .inl ⟨running, address⟩⟩ running
      next => exact .kept (.refl s)
  next unconfigured =>
    split
    next restart => exact .started (.refl s) ⟨b, body, restart.1, .inr ⟨unconfigured, restart.2⟩⟩
    next => exact .kept (.refl s)
  all_goals exact .kept (.refl s)

theorem sourceStation_le (source : Byte) : sourceStation source ≤ 31 := by
  unfold sourceStation
  split
  · assumption
  · exact Nat.zero_le _

theorem act_taken (f : Frame) (source : Nat) : Taken f s (s.act source f.body) := by
  cases body : f.body with
  | alert b => exact .kept (takeAlert_keeps b)
  | command b => exact takeCommand_taken body
  | count b => exact .kept (takeCount_keeps b)
  | stray b => exact .kept (takeStray_keeps b)
  | tally entries => exact .kept (takeTally_keeps entries)
  | census codes => exact .kept (takeCensus_keeps codes)
  | status | fault => exact .kept (.refl s)

theorem takeFrame_taken (f : Frame) : Taken f s (s.takeFrame f) :=
  (act_taken f _).of_keeps (countTaken_keeps.trans (setLastSender_keeps (sourceStation_le f.source)))

/-- The frame in assembly is the one in progress, or begins on the idle line with its carrier (R109). -/
theorem inAssembly_cases (h : s.inAssembly = some t) : t = s ∨ t = s.hearCarrier false := by
  unfold State.inAssembly at h
  split at h
  · split at h
    · exact .inl (Option.some.inj h).symm
    · exact .inr (Option.some.inj h).symm
    · cases h
  · cases h

theorem inAssembly_keeps (h : s.inAssembly = some t) : Keeps s t := by
  obtain rfl | rfl := inAssembly_cases h
  · exact .refl _
  · exact hearCarrier_keeps _

theorem abandonFrame_keeps : Keeps s s.abandonFrame := by
  unfold State.abandonFrame
  split
  next h => exact (inAssembly_keeps h).trans (badFrame_keeps.trans awaitIdle_keeps)
  next => exact .refl s

theorem discardOverLength_keeps : Keeps s s.discardOverLength := by
  unfold State.discardOverLength
  split
  next h =>
    exact (inAssembly_keeps h).trans (countOverLength_keeps.trans ((setLastSender_keeps (Nat.zero_le _)).trans awaitIdle_keeps))
  next => exact .refl s

theorem completeFrame_taken (f : Frame) : Taken f s (s.completeFrame f) := by
  unfold State.completeFrame
  split
  · exact .kept discardOverLength_keeps
  · split
    · split
      next h => exact (takeFrame_taken f).of_keeps ((inAssembly_keeps h).trans awaitIdle_keeps)
      next => exact .kept (.refl s)
    · exact .kept abandonFrame_keeps

/-! ### The line -/

theorem becomeIdle_keeps : Keeps s s.becomeIdle := by
  unfold State.becomeIdle
  split
  · dsimp only
    split
    · exact badFrame_keeps.trans {}
    · exact {}
  · exact .refl s

/-- The frame of a slot waits in the queue while nothing is being sent (R113). -/
theorem slotFrame_some {slot : Nat} {f : SendFrame} (h : s.slotFrame slot = some f) :
    f ∈ s.queue ∧ ∀ g ∈ s.queue, g.isWaiting = true := by
  unfold State.slotFrame at h
  split at h
  next free => exact ⟨List.mem_of_find?_eq_some h, by simpa [State.isSending] using free.2.1⟩
  next => cases h

theorem beginSlot_keeps (slot : Nat) : Keeps s (s.beginSlot slot) := by
  unfold State.beginSlot
  split
  · exact .refl s
  · split
    · dsimp only
      split
      next f sends =>
        obtain ⟨mem, silent⟩ := slotFrame_some sends
        exact Keeps.trans {} (beginAttempt_keeps mem silent)
      next => exact {}
    · exact .refl s

theorem repeatRound_keeps : Keeps s s.repeatRound := by
  unfold State.repeatRound
  split
  · exact .refl s
  · split
    · exact {}
    · exact .refl s

theorem collide_keeps : Keeps s s.collide := by
  unfold State.collide
  split
  · exact .refl s
  · split
    · exact countCollision_keeps.trans failAttempt_keeps
    · exact .refl s

/-- A frame sent whole is taken like any other (R118). -/
theorem succeed_cases (s : State) :
    s.succeed = s ∨ ∃ g ∈ s.queue, ∃ f, g.phase = .sending f ∧ Taken f s s.succeed := by
  unfold State.succeed
  split
  · exact .inl rfl
  next g sends =>
    cases phase : g.phase with
    | waiting => simp [SendFrame.formed, phase]
    | sending f =>
      simp only [SendFrame.formed, phase]
      split
      · exact .inr ⟨g, List.mem_of_find?_eq_some sends, f, phase, (takeFrame_taken f).of_keeps
          ((leaveQueue_keeps _).trans ((atLastStop_keeps _).trans awaitIdle_keeps))⟩
      · exact .inl rfl

/-! ### The key -/

theorem closeKey_keeps : Keeps s s.closeKey := by
  unfold State.closeKey
  split
  · dsimp only
    split
    · exact settleKey_keeps
    · exact settleKey_keeps.trans {}
  · exact .refl s

theorem shortPress_keeps : Keeps s s.shortPress := by
  unfold State.shortPress
  dsimp only
  split <;> exact requestCommand_keeps _ _

theorem openKey_keeps : Keeps s s.openKey := by
  have opened : Keeps s { s.settleKey with key := { s.settleKey.key with awaitOpen := false, press := none } } :=
    settleKey_keeps.trans {}
  unfold State.openKey State.endPress
  dsimp only
  split
  · split
    · split
      · exact opened.trans shortPress_keeps
      · exact opened
    · split
      · exact opened
      · exact .refl s
  · exact .refl s

theorem holdKey_keeps : Keeps s s.holdKey := by
  unfold State.holdKey
  split
  · exact .refl s
  · split
    · exact Keeps.trans {} (requestCommand_keeps _ _)
    · exact .refl s

theorem faultMinute_keeps : Keeps s s.faultMinute := by
  unfold State.faultMinute
  split
  · exact Keeps.trans {} (request_keeps _)
  · exact .refl s

theorem cutFrame_keeps : Keeps s s.cutFrame := by
  unfold State.cutFrame
  split
  · refine Keeps.trans ?_ failAttempt_keeps
    split
    · exact countBad_keeps
    · exact .refl s
  · exact .refl s

end Sys2Proof.Machine
end

section
/-! What a command can do: it keeps the laws, the waiting commands and the memory, and changes the station state by a row of
Table 10-3. -/

namespace Sys2Proof.Machine

variable {s t u : State} {c : Instr} {l : Fin 12}

/-! ### The full start -/

@[simp] theorem fullStart_line (s : State) (l : Fin 12) : s.fullStart.line l = .blank := by
  simp [State.fullStart, State.reset, State.line]

@[simp] theorem fullStart_cell (s : State) (i : Fin 12) : s.fullStart.cell i = .blank := by
  simp [State.fullStart, State.reset, State.cell]

/-- Cells without a count sum to 0. -/
theorem countSum_eq_zero {cells : Vector CellRecord 12} (h : ∀ i : Fin 12, cells[i].count = 0) (list : List (Fin 12)) :
    countSum cells list = 0 := by
  simp only [countSum, h, List.map_const', List.sum_replicate, smul_zero]

/-- A VACANT line without entries or a lead is lawful at every station. -/
theorem lawful_of_vacant {a : ArticleLine} {number : Nat} (state : a.state = .vacant) (map : a.map = []) (lead : a.lead = 0) :
    a.Lawful number := by
  refine ⟨by simp [map], ?_⟩
  rw [state]
  exact ⟨map, lead⟩

theorem alertLawful_of_blank {a : ArticleLine} (h : a.alert = .blank) : a.AlertLawful := by
  simp [ArticleLine.AlertLawful, h, alertPaired, AlertRecord.blank]

theorem blank_bounded : CellRecord.blank.Bounded := by
  simp [CellRecord.Bounded, CellRecord.blank, Config.balanceMax, Config.faultRunLimit]

/-- A station of blank lines and cells meets the laws of lines and cells. -/
theorem lawful_of_blank (line : ∀ l, s.line l = .blank) (cell : ∀ i, s.cell i = .blank) :
    s.OwnCountsAgree ∧ s.LinesLawful ∧ s.AlertsLawful ∧ s.HashHolds ∧ s.CellsBounded ∧ s.UnusedEmpty := by
  refine ⟨fun l => ?_, ⟨fun l => ?_, fun l used => ?_, fun _ l => ?_⟩, fun l => ?_, fun l used => ?_, fun i => ?_, fun i _ => cell i⟩
  · rw [countSum_eq_zero fun i => congrArg CellRecord.count (cell i), line]
    rfl
  · rw [line]
    exact lawful_of_vacant rfl rfl rfl
  · exact absurd (congrArg ArticleLine.state (line l)) used
  · rw [line]
    rfl
  · rw [line]
    exact alertLawful_of_blank rfl
  · exact absurd (congrArg ArticleLine.state (line l)) used
  · rw [cell]
    exact blank_bounded

/-- An empty queue is bounded and merged. -/
theorem queue_of_empty (empty : s.queue = []) : s.QueueBounded ∧ s.QueueMerged := by
  simp [State.QueueBounded, State.QueueMerged, empty]

/-- An empty log is bounded. -/
theorem log_of_empty (empty : s.log = []) : s.LogBounded := by simp [State.LogBounded, empty]

/-- The full start meets every law, in whatever state the station then stands. -/
theorem fullStart_lawful (s : State) (x : StationState) : LawsKept s { s.fullStart with station := x } := by
  obtain ⟨ownCounts, lines, alerts, hash, cells, unused⟩ :=
    lawful_of_blank (s := { s.fullStart with station := x }) (fullStart_line s) (fullStart_cell s)
  obtain ⟨queue, merged⟩ := queue_of_empty (s := { s.fullStart with station := x }) rfl
  exact {
    ownCounts := fun _ => ownCounts
    lines := fun _ => lines
    alerts := fun _ => alerts
    hash := fun _ => hash
    queue := fun _ => queue
    merged := fun _ _ => merged
    log := fun _ => log_of_empty rfl
    cells := fun _ => cells
    unused := fun _ => unused
    counters := fun _ => by simp [State.fullStart, State.reset, Counters.Bounded, Counters.zero]
    ranges := fun _ => by simp [State.fullStart, State.reset, State.RangesHold, LineAccess.blank]
    restart := fun _ pending => absurd rfl pending }

/-! ### Rows and frames -/

/-- The frame that a row of the line stands for, where it is one of the rows of a complete frame. -/
def frameOf : Instr → Option Frame
  | .badFrame characters => if isOverLength characters then none else goodFrame characters
  | .countTaken source b => some ⟨source, .count b⟩
  | .alertTaken source b => some ⟨source, .alert b⟩
  | .strayTaken source b => some ⟨source, .stray b⟩
  | .tallyTaken source entries => some ⟨source, .tally entries⟩
  | .censusTaken source codes => some ⟨source, .census codes⟩
  | .statusTaken source b => some ⟨source, .status b⟩
  | .faultTaken source b => some ⟨source, .fault b⟩
  | .ack source target option payload => some (commandFrame source target CommandCode.ack.value option payload)
  | .restockBegin source target option payload => some (commandFrame source target CommandCode.restockBegin.value option payload)
  | .restockEnd source target option payload => some (commandFrame source target CommandCode.restockEnd.value option payload)
  | .query source target option payload => some (commandFrame source target CommandCode.query.value option payload)
  | .recount source target option payload => some (commandFrame source target CommandCode.recount.value option payload)
  | .zero source target option payload => some (commandFrame source target CommandCode.zero.value option payload)
  | .restart source target option payload => some (commandFrame source target CommandCode.restart.value option payload)
  | .unknownCommandCode source target code option payload => some (commandFrame source target code option payload)
  | _ => none

/-- A row of a complete frame answers what the frame's end at the receiver leaves. -/
theorem exec_of_frameOf {f : Frame} (row : frameOf c = some f) : exec c s = .next (s.completeFrame f).finish := by
  cases c with
  | badFrame characters =>
    change (if isOverLength characters then none else goodFrame characters) = some f at row
    change Host.Outcome.next (s.completeCharacters characters).finish = _
    split at row
    · cases row
    next header => rw [State.completeCharacters, if_neg header, row]
  | _ => cases row <;> rfl

/-- The station state changes by these rows (Table 10-3), and by a full start, where a restart is pending or a RESTART is obeyed. -/
inductive StationRow (c : Instr) (s : State) : StationState → Prop
  | powerOn (command : c = .powerOn) : StationRow c s .loading
  | supplyFailure (command : c = .supplyFailure) : StationRow c s .off
  | passed (image : List Byte) (i : Image) (loading : s.station = .loading) (command : c = .imageLoadEnd image)
      (checks : checkImage (Memory.ofBytes image) = .passed i) : StationRow c s .running
  | failed (image : List Byte) (fault : FaultCode) (number : Nat) (loading : s.station = .loading)
      (command : c = .imageLoadEnd image) (checks : checkImage (Memory.ofBytes image) = .failed fault number) :
      StationRow c s .unconfigured
  | silent (loading : s.station = .loading) (run : 2 ≤ s.loader.noAnswers)
      (command : c = .eepromNoAnswer ⟨s.loader.position, false⟩) : StationRow c s .unconfigured
  | brownout (running : s.station = .running) (command : c = .supplySample true) (run : s.supply.lowRun = 1) :
      StationRow c s .brownout
  | back (brownout : s.station = .brownout) (command : c = .supplySample false) (run : s.supply.goodRun = 1) :
      StationRow c s .running
  | restart (pending : s.restartPending ≠ none) : StationRow c s .loading
  | obeyed (f : Frame) (restarts : s.ObeysRestart f)
      (taken : frameOf c = some f ∨ c = .attemptSucceeded ∧ ∃ g ∈ s.queue, g.phase = .sending f) : StationRow c s .loading

/-- What a command can do. -/
structure Stepped (c : Instr) (s t : State) : Prop where
  laws : LawsKept s t
  pending : t.pending = s.pending
  memory : t.eeprom = s.eeprom ∨ ∃ image, c = .imageLoadEnd image ∧ s.station = .loading ∧ t.eeprom = Memory.ofBytes image
  station : t.station = s.station ∨ StationRow c s t.station

theorem Keeps.stepped (h : Keeps s t) : Stepped c s t := ⟨h.toLawsKept, h.pending, .inl h.eeprom, .inl h.station⟩

/-- A full start that a row of Table 10-3 calls for. -/
theorem Stepped.fullStart (h : Stepped c s t) (row : StationRow c s .loading) : Stepped c s t.fullStart :=
  ⟨h.laws.trans (fullStart_lawful t .loading), h.pending, h.memory, .inr row⟩

/-- The end of an event adds at most a full start, and that where a restart is pending. -/
theorem Stepped.finish (h : Stepped c s t) (row : t.restartPending ≠ none → StationRow c s .loading) :
    Stepped c s t.finish := by
  have window : Stepped c s t.openCensusWindow := by
    unfold State.openCensusWindow
    split
    · exact ⟨h.laws.trans {}, h.pending, h.memory, h.station⟩
    · exact h
  have mark : t.openCensusWindow.restartPending = t.restartPending := by
    unfold State.openCensusWindow
    split <;> rfl
  unfold State.finish
  dsimp only
  split
  next due =>
    refine window.fullStart (row fun none => ?_)
    simp [State.restartDue, mark, none] at due
  next => exact window

theorem Keeps.finish (h : Keeps s t) : Stepped c s t.finish :=
  h.stepped.finish fun pending => .restart (h.restartPending ▸ pending)

/-- A frame that is taken, with the end of its event. -/
theorem Taken.finish {f : Frame} (h : Taken f s t)
    (row : frameOf c = some f ∨ c = .attemptSucceeded ∧ ∃ g ∈ s.queue, g.phase = .sending f) : Stepped c s t.finish := by
  cases h with
  | kept h => exact h.finish
  | @marked t h age restarts running =>
    have mark : Stepped c s { t with restartPending := some age } :=
      ⟨{ h.toLawsKept with restart := fun _ _ => .inl (h.station.trans running) }, h.pending, .inl h.eeprom, .inl h.station⟩
    exact mark.finish fun _ => .obeyed f restarts row
  | started h restarts => exact (h.stepped.fullStart (.obeyed f restarts row)).finish fun pending => absurd rfl pending

/-! ### Start-up and supply -/

/-- Entry to UNCONFIGURED from LOADING, whose lines are VACANT and where no restart is pending. -/
theorem enterUnconfigured_lawful (fault : FaultCode) (number : Nat) (loading : s.station = .loading) :
    LawsKept s (s.enterUnconfigured fault number) := by
  have stopped : s.timersRun = false := by simp [State.timersRun, loading]
  refine LawsKept.trans ?_ (request_keeps _).toLawsKept
  exact {
    lines := fun ⟨lawful, _, vacant⟩ => by
      refine ⟨fun l => ?_, fun l used => absurd (vacant stopped l) used, fun _ => vacant stopped⟩
      have state := vacant stopped l
      obtain ⟨-, parts⟩ := lawful l
      rw [state] at parts
      exact lawful_of_vacant state parts.1 parts.2
    ranges := fun ⟨_, runs⟩ => ⟨Nat.zero_le _, runs⟩
    restart := fun lawful pending => by
      have := lawful pending
      simp [loading] at this }

@[simp] theorem enterUnconfigured_station (fault : FaultCode) (number : Nat) :
    (s.enterUnconfigured fault number).station = .unconfigured := by simp [State.enterUnconfigured]

@[simp] theorem enterUnconfigured_pending (fault : FaultCode) (number : Nat) :
    (s.enterUnconfigured fault number).pending = s.pending := by simp [State.enterUnconfigured]

@[simp] theorem enterUnconfigured_eeprom (fault : FaultCode) (number : Nat) :
    (s.enterUnconfigured fault number).eeprom = s.eeprom := by simp [State.enterUnconfigured]

theorem hashIndex_lt (code : Code) : hashIndex code < 64 := by
  have := (crc16 (bytes24 code)).isLt
  unfold hashIndex
  omega

/-- The hash table of some codes has the bits of their indexes (R161). -/
theorem hashOf_getLsbD (codes : List Code) (b : Nat) (range : b < 64) :
    (hashOf codes).getLsbD b = true ↔ ∃ c ∈ codes, hashIndex c = b := by
  have turns (start : BitVec 64) : (codes.foldl (fun h c => h ||| (1#64 <<< hashIndex c)) start).getLsbD b = true ↔
      start.getLsbD b = true ∨ ∃ c ∈ codes, hashIndex c = b := by
    induction codes generalizing start with
    | nil => simp
    | cons c rest ih =>
      have bit : (1#64 <<< hashIndex c).getLsbD b = true ↔ hashIndex c = b := by
        simp only [BitVec.getLsbD_shiftLeft, BitVec.getLsbD_one, range, decide_true, Bool.true_and, Bool.and_eq_true,
          Bool.not_eq_true', decide_eq_true_eq, decide_eq_false_iff_not]
        omega
      rw [List.foldl_cons, ih, BitVec.getLsbD_or, Bool.or_eq_true, bit, or_assoc]
      simp
  rw [hashOf, turns]
  simp

/-- The line that an image gives is blank, or JOINING with a blank map, lead and record, and the code of its record. -/
theorem imageLine_cases (i : Image) (l : Fin 12) :
    imageLine i l = .blank ∨
      ∃ a ∈ i.articles, ∃ config, config.code = a.code ∧ imageLine i l = { ArticleLine.blank with config := config, state := .joining } := by
  unfold imageLine
  split
  · exact .inl rfl
  next a found => exact .inr ⟨a, List.mem_of_getElem? found, _, rfl, rfl⟩

/-- The cell that an image gives is blank, or used with an empty record. -/
theorem imageCellRecord_cases (i : Image) (k : Fin 12) :
    imageCellRecord i k = .blank ∨
      (imageCellRecord i k).state = .warming ∧ (imageCellRecord i k).count = 0 ∧ (imageCellRecord i k).Bounded := by
  unfold imageCellRecord
  split
  · exact .inl rfl
  · exact .inr ⟨rfl, rfl, blank_bounded⟩

/-- The station built from a clamped image, before its CENSUS is asked for (R161). -/
def State.built (s : State) (i : Image) (clamped : Bool) : State :=
  { s with
    station := .running
    number := i.number
    neighbours := i.places.filter (fun p => p != 0)
    eventThreshold := i.eventThreshold
    settleBand := i.settleBand
    motionLimit := i.motionLimit
    strayWindow := i.strayWindow
    imageClamped := clamped
    hashTable := hashOf (i.articles.map ArticleRecord.code)
    clock := 0
    tallyAt := i.number * Config.tallyStep
    rotation := 0
    cells := Vector.ofFn (imageCellRecord i)
    lines := Vector.ofFn (imageLine i)
    census := .queued
    access := .blank
    key := ⟨true, 0, none⟩ }

theorem enterRunning_eq (s : State) (i : Image) (clamped : Bool) :
    s.enterRunning i clamped = (s.built i clamped).request (.census (i.articles.map ArticleRecord.code)) := rfl

@[simp] theorem built_line (s : State) (i : Image) (clamped : Bool) (l : Fin 12) : (s.built i clamped).line l = imageLine i l := by
  simp [State.built, State.line]

@[simp] theorem built_cell (s : State) (i : Image) (clamped : Bool) (k : Fin 12) :
    (s.built i clamped).cell k = imageCellRecord i k := by
  simp [State.built, State.cell]

/-- The built station meets every law of its own, and keeps those of queue, log, counters and memory. -/
theorem built_lawful (i : Image) (clamped : Bool) (range : 1 ≤ i.number ∧ i.number ≤ 30) : LawsKept s (s.built i clamped) where
  ownCounts := fun _ l => by
    have zero (k : Fin 12) : (s.built i clamped).cells[k].count = 0 := by
      change ((s.built i clamped).cell k).count = 0
      obtain blank | ⟨-, zero, -⟩ := imageCellRecord_cases i k
      · rw [built_cell, blank]; rfl
      · rw [built_cell, zero]
    rw [countSum_eq_zero zero, built_line]
    obtain blank | ⟨a, -, config, -, joining⟩ := imageLine_cases i l
    · rw [blank]; rfl
    · rw [joining]; rfl
  lines := fun _ => by
    refine ⟨fun l => ?_, fun _ _ => range, fun stopped => nomatch stopped⟩
    rw [built_line]
    obtain blank | ⟨a, -, config, -, joining⟩ := imageLine_cases i l
    · rw [blank]; exact lawful_of_vacant rfl rfl rfl
    · rw [joining]
      refine ⟨⟨Nat.zero_le _, List.nodup_nil, fun _ h => nomatch h⟩, fun zero : 0 = i.number => ?_, rfl⟩
      omega
  alerts := fun _ l => by
    rw [built_line]
    obtain blank | ⟨a, -, config, -, joining⟩ := imageLine_cases i l
    · rw [blank]; exact alertLawful_of_blank rfl
    · rw [joining]; exact alertLawful_of_blank rfl
  hash := fun _ l used => by
    rw [built_line] at used ⊢
    obtain blank | ⟨a, mem, config, code, joining⟩ := imageLine_cases i l
    · rw [blank] at used; exact absurd rfl used
    · rw [joining]
      exact (hashOf_getLsbD _ _ (hashIndex_lt _)).mpr ⟨a.code, List.mem_map_of_mem mem, by rw [code]⟩
  cells := fun _ k => by
    rw [built_cell]
    obtain blank | ⟨-, -, bounded⟩ := imageCellRecord_cases i k
    · rw [blank]; exact blank_bounded
    · exact bounded
  unused := fun _ k unused => by
    rw [built_cell] at unused ⊢
    obtain blank | ⟨warming, -⟩ := imageCellRecord_cases i k
    · exact blank
    · rw [warming] at unused; cases unused
  ranges := fun ⟨_, runs⟩ => ⟨Nat.zero_le _, runs⟩
  restart := fun _ _ => .inl rfl

/-- An image that passes the checks has a station number of 1 to 30 (R158). -/
theorem number_of_passed {m : Memory} {i : Image} (passed : checkImage m = .passed i) : 1 ≤ i.number ∧ i.number ≤ 30 := by
  unfold checkImage at passed
  dsimp only at passed
  split_ifs at passed with mark counts crc number structural
  obtain rfl := LoadEnd.passed.inj passed
  omega

/-- A load ends in UNCONFIGURED or in RUNNING, by the checks. -/
theorem endLoad_cases (s : State) :
    (∃ fault number, checkImage s.eeprom = .failed fault number ∧ s.endLoad = s.enterUnconfigured fault number) ∨
      ∃ i, checkImage s.eeprom = .passed i ∧ s.endLoad = s.enterRunning (clampImage i) (imageClampedBy i) := by
  unfold State.endLoad
  split
  next fault number checks => exact .inl ⟨fault, number, checks, rfl⟩
  next i checks => exact .inr ⟨i, checks, rfl⟩

theorem loadRuns_iff : s.loadRuns = true ↔ s.station = .loading ∧ s.loader.abandoned = false := by simp [State.loadRuns]

theorem loadRuns_eq_false_iff : s.loadRuns = false ↔ s.station ≠ .loading ∨ s.loader.abandoned = true := by
  rw [← Bool.not_eq_true, loadRuns_iff, not_and_or, Bool.not_eq_false]

theorem imageLoadEnd_stepped (image : List Byte) (s : State) :
    ∃ t, exec (.imageLoadEnd image) s = .next t ∧ Stepped (.imageLoadEnd image) s t := by
  refine ⟨_, rfl, ?_⟩
  split
  next runs =>
    obtain ⟨loading, -⟩ := loadRuns_iff.mp runs
    have read : LawsKept s { s with eeprom := Memory.ofBytes image } := { memory := fun _ => Memory.ofBytes_wf image }
    obtain ⟨fault, number, checks, ends⟩ | ⟨i, checks, ends⟩ := endLoad_cases { s with eeprom := Memory.ofBytes image } <;>
      rw [ends]
    · refine ⟨read.trans (enterUnconfigured_lawful _ _ loading), enterUnconfigured_pending _ _, .inr ⟨image, rfl, loading, ?_⟩, .inr ?_⟩
      · exact enterUnconfigured_eeprom _ _
      · rw [enterUnconfigured_station]
        exact .failed image fault number loading rfl checks
    · have range : 1 ≤ (clampImage i).number ∧ (clampImage i).number ≤ 30 := number_of_passed (i := i) checks
      rw [enterRunning_eq]
      refine ⟨(read.trans (built_lawful _ _ range)).trans (request_keeps _).toLawsKept, ?_, .inr ⟨image, rfl, loading, ?_⟩, .inr ?_⟩
      · rw [request_pending]; rfl
      · rw [request_eeprom]; rfl
      · rw [request_station]
        exact .passed image i loading rfl checks
  next => exact (Keeps.refl s).stepped

/-- The run of addressings without an answer that one more of them makes (R157). -/
def State.silentRun (s : State) (x : Silence) : Nat :=
  if x.answered = false ∧ x.position = s.loader.position then s.loader.noAnswers + 1 else 1

theorem noAnswer_of_runs (x : Silence) (runs : s.loadRuns = true) :
    s.noAnswer x =
      if 3 ≤ s.silentRun x then s.enterUnconfigured .eepromSilent 0
      else { s with loader := ⟨s.silentRun x, x.position, false⟩ } := by
  rw [State.noAnswer, if_pos runs]
  rfl

theorem noAnswer_of_stopped (x : Silence) (stopped : s.loadRuns = false) : s.noAnswer x = s := by
  simp [State.noAnswer, stopped]

theorem eq_of_silentRun {x : Silence} (third : 3 ≤ s.silentRun x) :
    x = ⟨s.loader.position, false⟩ ∧ 2 ≤ s.loader.noAnswers := by
  unfold State.silentRun at third
  by_cases same : x.answered = false ∧ x.position = s.loader.position
  · rw [if_pos same] at third
    exact ⟨by rw [← same.1, ← same.2], by omega⟩
  · rw [if_neg same] at third
    omega

theorem eepromNoAnswer_stepped (x : Silence) (s : State) :
    ∃ t, exec (.eepromNoAnswer x) s = .next t ∧ Stepped (.eepromNoAnswer x) s t := by
  refine ⟨_, rfl, ?_⟩
  cases runs : s.loadRuns with
  | false =>
    rw [noAnswer_of_stopped x runs]
    exact (Keeps.refl s).stepped
  | true =>
    obtain ⟨loading, -⟩ := loadRuns_iff.mp runs
    rw [noAnswer_of_runs x runs]
    split
    next third =>
      obtain ⟨silence, run⟩ := eq_of_silentRun third
      refine ⟨enterUnconfigured_lawful _ _ loading, enterUnconfigured_pending _ _, .inl (enterUnconfigured_eeprom _ _), .inr ?_⟩
      rw [enterUnconfigured_station]
      exact .silent loading run (by rw [silence])
    next => exact Keeps.stepped {}

/-! ### The supply monitor -/

theorem after_le (p : Supply) (low : Bool) : (p.after low).lowRun ≤ 2 ∧ (p.after low).goodRun ≤ 2 := by
  cases low <;> simp [Supply.after]

/-- A sample that is counted alone. -/
theorem counted_keeps (low : Bool) : Keeps s { s with supply := s.supply.after low } where
  ranges := fun ⟨sender, _⟩ => ⟨sender, after_le _ _⟩

/-- Entry to BROWNOUT from RUNNING. -/
theorem enterBrownout_lawful (running : s.station = .running) : LawsKept s s.enterBrownout := by
  refine cutFrame_keeps.toLawsKept.trans ?_
  have station : s.cutFrame.station = .running := cutFrame_keeps.station.trans running
  exact {
    lines := fun ⟨lawful, number, _⟩ => ⟨lawful, number, fun stopped => nomatch stopped⟩
    ranges := fun ⟨sender, _, good⟩ => ⟨sender, Nat.zero_le _, good⟩
    restart := fun _ _ => .inr rfl }

/-- A cell at the return from BROWNOUT keeps its count and its ranges, and whether it is used. -/
theorem afterBrownout_cases (c : CellRecord) : c.afterBrownout = c ∨ c.Keeps c.afterBrownout := by
  unfold CellRecord.afterBrownout
  split
  · exact .inl rfl
  · exact .inr (warm_keeps c _)

/-- The return from BROWNOUT. -/
theorem leaveBrownout_lawful : LawsKept s s.leaveBrownout := by
  have cell (i : Fin 12) : s.leaveBrownout.cell i = (s.cell i).afterBrownout := by simp [State.leaveBrownout, State.cell]
  exact {
    ownCounts := fun agree l => by
      have counts (i : Fin 12) : s.leaveBrownout.cells[i].count = s.cells[i].count := by
        change (s.leaveBrownout.cell i).count = (s.cell i).count
        rw [cell]
        obtain same | keeps := afterBrownout_cases (s.cell i)
        · rw [same]
        · exact keeps.count
      rw [countSum_congr counts]
      exact agree l
    lines := fun ⟨lawful, number, _⟩ => ⟨lawful, number, fun stopped => nomatch stopped⟩
    cells := fun bounded i => by
      rw [cell]
      obtain same | keeps := afterBrownout_cases (s.cell i)
      · rw [same]; exact bounded i
      · exact keeps.bounded (bounded i)
    unused := fun empty i unused => by
      rw [cell] at unused ⊢
      obtain same | keeps := afterBrownout_cases (s.cell i)
      · rw [same] at unused ⊢; exact empty i unused
      · exact absurd unused keeps.used
    ranges := fun ⟨_, low, _⟩ => ⟨Nat.zero_le _, low, Nat.zero_le _⟩
    restart := fun _ _ => .inl rfl }

theorem sampleSupply_stepped (low : Bool) (s : State) :
    ∃ t, exec (.supplySample low) s = .next t ∧ Stepped (.supplySample low) s t := by
  refine ⟨_, rfl, ?_⟩
  have counted : Keeps s { s with supply := s.supply.after low } := counted_keeps low
  unfold State.sampleSupply
  dsimp only
  split
  next => exact (Keeps.refl s).finish
  next => exact counted.finish
  next running =>
    split
    next second =>
      have entry : low = true ∧ s.supply.lowRun = 1 := by
        cases low <;> simp [Supply.after] at second ⊢
        omega
      obtain ⟨rfl, run⟩ := entry
      have cut : Keeps s ({ s with supply := s.supply.after true } : State).cutFrame := counted.trans cutFrame_keeps
      refine Stepped.finish ⟨counted.toLawsKept.trans (enterBrownout_lawful running), cut.pending, .inl cut.eeprom,
        .inr (.brownout running rfl run)⟩ fun pending => .restart ?_
      rwa [← cut.restartPending]
    next => exact counted.finish
  next brownout =>
    split
    next second =>
      have back : low = false ∧ s.supply.goodRun = 1 := by
        cases low <;> simp [Supply.after] at second ⊢
        omega
      obtain ⟨rfl, run⟩ := back
      exact Stepped.finish ⟨counted.toLawsKept.trans leaveBrownout_lawful, rfl, .inl rfl, .inr (.back brownout rfl run)⟩ (fun pending => .restart pending)
    next => exact counted.finish
  next =>
    split
    · exact (counted.trans {}).finish
    · split
      · exact (counted.trans {}).finish
      · exact counted.finish

/-! ### Every command -/

theorem convertInto_stepped (code : Conversion) (was becomes : CellState → Bool) :
    Stepped c s (s.convertInto code was becomes) := by
  unfold State.convertInto
  dsimp only
  split
  · exact convert_keeps.finish
  · exact (Keeps.refl s).stepped

theorem stepped_of_frameOf {f : Frame} (row : frameOf c = some f) (s : State) : ∃ t, exec c s = .next t ∧ Stepped c s t :=
  ⟨_, exec_of_frameOf row, (completeFrame_taken f).finish (.inl row)⟩

/-- A row of characters that stands for no frame is discarded or abandoned. -/
theorem completeCharacters_keeps {characters : List Byte} (row : frameOf (.badFrame characters) = none) :
    Keeps s (s.completeCharacters characters) := by
  change (if isOverLength characters then none else goodFrame characters) = none at row
  unfold State.completeCharacters
  split
  · exact discardOverLength_keeps
  next header =>
    rw [if_neg header] at row
    rw [row]
    exact abandonFrame_keeps

/-- Every command answers a next state, and one that it can answer. -/
theorem exec_stepped (c : Instr) (s : State) : ∃ t, exec c s = .next t ∧ Stepped c s t := by
  cases c with
  | powerOn => exact ⟨_, rfl, (Keeps.refl s).stepped.fullStart (.powerOn rfl)⟩
  | supplyFailure => exact ⟨_, rfl, fullStart_lawful s .off, rfl, .inl rfl, .inr (.supplyFailure rfl)⟩
  | eepromNoAnswer x => exact eepromNoAnswer_stepped x s
  | imageLoadEnd image => exact imageLoadEnd_stepped image s
  | unconfiguredFaultMinute => exact ⟨_, rfl, faultMinute_keeps.stepped⟩
  | supplySample low => exact sampleSupply_stepped low s
  | conversion code => exact ⟨_, rfl, convert_keeps.finish⟩
  | warmUpEnd code => exact ⟨_, rfl, convertInto_stepped code _ _⟩
  | enterUnsteady code => exact ⟨_, rfl, convertInto_stepped code _ _⟩
  | enterFault code => exact ⟨_, rfl, convertInto_stepped code _ _⟩
  | leaveFault code => exact ⟨_, rfl, convertInto_stepped code _ _⟩
  | departureExpiry => exact ⟨_, rfl, expireOldest_keeps.stepped⟩
  | lineIdle => exact ⟨_, rfl, becomeIdle_keeps.stepped⟩
  | overLengthDiscard length =>
    refine ⟨_, rfl, Keeps.stepped ?_⟩
    split
    · exact discardOverLength_keeps
    · exact .refl s
  | contentionSlot slot => exact ⟨_, rfl, (beginSlot_keeps slot).stepped⟩
  | roundRepeat => exact ⟨_, rfl, repeatRound_keeps.stepped⟩
  | collision => exact ⟨_, rfl, collide_keeps.finish⟩
  | attemptSucceeded =>
    refine ⟨_, rfl, ?_⟩
    obtain same | ⟨g, mem, f, phase, taken⟩ := succeed_cases s
    · rw [same]; exact (Keeps.refl s).finish
    · exact taken.finish (.inr ⟨rfl, g, mem, phase⟩)
  | badFrame characters =>
    cases row : frameOf (.badFrame characters) with
    | none => exact ⟨_, rfl, (completeCharacters_keeps row).finish⟩
    | some f => exact stepped_of_frameOf row s
  | censusWindowEnd => exact ⟨_, rfl, endCensusWindow_keeps.finish⟩
  | joiningLimit => exact ⟨_, rfl, endJoining_keeps.finish⟩
  | tallyPhase => exact ⟨_, rfl, reachTallyPhase_keeps.finish⟩
  | entryStale line peer => exact ⟨_, rfl, reachStale_keeps.stepped⟩
  | entryRemoved line peer => exact ⟨_, rfl, reachRemoved_keeps.finish⟩
  | leadTimerExpiry line => exact ⟨_, rfl, leadTimerEnd_keeps.stepped⟩
  | claimTimerExpiry line => exact ⟨_, rfl, claimTimerEnd_keeps.finish⟩
  | startHoldExpiry line => exact ⟨_, rfl, startHoldEnd_keeps.finish⟩
  | reminderTimerExpiry line => exact ⟨_, rfl, reminderEnd_keeps.finish⟩
  | restockTimerExpiry line => exact ⟨_, rfl, restockTimerEnd_keeps.finish⟩
  | keyPressBegin => exact ⟨_, rfl, closeKey_keeps.stepped⟩
  | keyRelease => exact ⟨_, rfl, openKey_keeps.finish⟩
  | longPress => exact ⟨_, rfl, holdKey_keeps.finish⟩
  | carrier low =>
    refine ⟨_, rfl, Keeps.stepped ?_⟩
    split
    · exact Keeps.trans (t := { s with lineLow := low }) {} (hearCarrier_keeps _)
    · exact {}
  | framingError => exact ⟨_, rfl, abandonFrame_keeps.stepped⟩
  | syncMismatch character =>
    refine ⟨_, rfl, Keeps.stepped ?_⟩
    split
    · exact .refl s
    · exact abandonFrame_keeps
  | _ => exact stepped_of_frameOf rfl s

/-! ### Steps -/

/-- A step keeps each law: by the command at the front, or by one bit time and the commands that it puts into the queue. -/
theorem step_lawful (stepped : step s = .next t) : LawsKept s t := by
  unfold step at stepped
  split at stepped
  next =>
    cases stepped
    obtain ⟨-, one⟩ | ⟨-, queued⟩ := tick_cases s
    · exact one ▸ passBitTime_keeps.toLawsKept
    · exact queued ▸ {}
  next c rest _ =>
    obtain ⟨u, next, change⟩ := exec_stepped c { s with pending := rest }
    obtain rfl : u = t := by
      rw [next] at stepped
      exact Host.Outcome.next.inj stepped
    exact LawsKept.trans {} change.laws

end Sys2Proof.Machine

open Sys2Proof Sys2Proof.Machine

/-- Settles O56, from what every operation keeps of the lines. -/
theorem linesStayLawful : Obligations.LinesStayLawful :=
  ⟨fun _ _ h stepped => (step_lawful stepped).ownCounts h, fun _ _ h stepped => (step_lawful stepped).lines h,
    fun _ _ h stepped => (step_lawful stepped).alerts h, fun _ _ h stepped => (step_lawful stepped).hash h⟩

/-- Settles O57: the WAITING frames stay unmerged where the queue is bounded, since a frame is known by its age. -/
theorem queueAndLogStayBounded : Obligations.QueueAndLogStayBounded :=
  ⟨fun _ _ ⟨bounded, merged⟩ stepped => ⟨(step_lawful stepped).queue bounded, (step_lawful stepped).merged bounded merged⟩,
    fun _ _ h stepped => (step_lawful stepped).queue h, fun _ _ h stepped => (step_lawful stepped).log h⟩

/-- Settles O58, from what every operation keeps of the cells. -/
theorem cellsStayBounded : Obligations.CellsStayBounded :=
  ⟨fun _ _ h stepped => (step_lawful stepped).cells h, fun _ _ h stepped => (step_lawful stepped).unused h⟩

/-- Settles O59, from what every operation keeps of counters, ranges, memory and restart mark. -/
theorem restartAndRangesAreKept : Obligations.RestartAndRangesAreKept :=
  ⟨fun _ _ h stepped => (step_lawful stepped).counters h, fun _ _ h stepped => (step_lawful stepped).ranges h,
    fun _ _ h stepped => (step_lawful stepped).memory h, fun _ _ h stepped => (step_lawful stepped).restart h⟩

end

section
/-! The station as a whole: its reset, the answer to every command, and the table of its states. -/

namespace Sys2Proof.Machine

variable {s t : State} {c : Instr}

/-- A command has one answer. -/
theorem stepped_of_exec (next : exec c s = .next t) : Stepped c s t := by
  obtain ⟨u, answer, stepped⟩ := exec_stepped c s
  obtain rfl : u = t := Host.Outcome.next.inj (answer.symm.trans next)
  exact stepped

theorem commandOf_value (x : CommandCode) : commandOf x.value = some x := by cases x <;> rfl

theorem isOverLength_of_complete {characters : List Byte} (complete : isComplete characters = true) :
    isOverLength characters = false := by
  unfold isComplete at complete
  unfold isOverLength
  split <;> simp_all

/-- A well-formed row whose frame is a RESTART is RESTART itself: a row of characters that is a good frame is not well formed, and an
unknown command code names no command. -/
theorem eq_restart_of_frameOf {f : Frame} {b : CommandBody} (wf : c.wf = true) (row : frameOf c = some f)
    (body : f.body = .command b) (command : commandOf b.code = some .restart) :
    ∃ source option payload, c = .restart source b.target option payload := by
  cases c with
  | badFrame characters =>
    simp only [Instr.wf, Bool.and_eq_true, Option.isNone_iff_eq_none] at wf
    change (if isOverLength characters then none else goodFrame characters) = some f at row
    rw [isOverLength_of_complete wf.1, wf.2] at row
    cases row
  | restart source target option payload =>
    obtain rfl := Option.some.inj row
    obtain rfl := Body.command.inj body
    exact ⟨source, option, payload, rfl⟩
  | unknownCommandCode source target code option payload =>
    obtain rfl := Option.some.inj row
    obtain rfl := Body.command.inj body
    simp [Instr.wf, command] at wf
  | ack | restockBegin | restockEnd | query | recount | zero =>
    obtain rfl := Option.some.inj row
    obtain rfl := Body.command.inj body
    rw [commandOf_value] at command
    cases command
  | _ =>
    cases row <;> cases body

/-- One bit time, and the commands that it puts into the queue, keep the station state. -/
theorem step_station_of_idle (idle : s.pending = []) (stepped : step s = .next t) : t.station = s.station := by
  simp only [step, idle] at stepped
  cases stepped
  exact tick_station s

end Sys2Proof.Machine

open Sys2Proof Sys2Proof.Machine

/-- Settles O60: the state after reset is its own full start, which meets every law. -/
theorem resetMeetsTheInvariants : Obligations.ResetMeetsTheInvariants := by
  obtain ⟨ownCounts, lines, alerts, hash, cells, unused⟩ :=
    lawful_of_blank (s := .reset) (fullStart_line .reset) (fullStart_cell .reset)
  obtain ⟨queue, merged⟩ := queue_of_empty (s := .reset) rfl
  have counters : State.reset.counters.Bounded := by simp [State.reset, Counters.Bounded, Counters.zero]
  exact ⟨ownCounts, lines, alerts, hash, queue, merged, log_of_empty rfl, cells, unused, counters, Nat.zero_le _, Nat.zero_le _,
    Nat.zero_le _, rfl, rfl, rfl, rfl, rfl, rfl, rfl, rfl, rfl⟩

/-- Settles O53, from what every command can do. -/
theorem everyCommandAnswersNext : Obligations.EveryCommandAnswersNext := by
  intro c s
  obtain ⟨t, next, stepped⟩ := exec_stepped c s
  exact ⟨t, next, stepped.pending, stepped.memory⟩

/-- Settles O55: a change of the station state is a row of Table 10-3 or a full start. -/
theorem stationStateChangesByItsTable : Obligations.StationStateChangesByItsTable := by
  refine ⟨fun c s t wf lawful next changed => ?_, fun s t => step_station_of_idle⟩
  obtain same | row := (stepped_of_exec next).station
  · exact absurd same changed
  generalize t.station = x at row ⊢
  cases row with
  | powerOn command => exact .inl ⟨command, rfl⟩
  | supplyFailure command => exact .inr (.inl ⟨command, rfl⟩)
  | passed image i loading command checks => exact .inr (.inr (.inl ⟨loading, rfl, image, i, command, checks⟩))
  | failed image fault number loading command checks =>
    exact .inr (.inr (.inr (.inl ⟨loading, rfl, .inl ⟨image, fault, number, command, checks⟩⟩)))
  | silent loading run command => exact .inr (.inr (.inr (.inl ⟨loading, rfl, .inr ⟨run, command⟩⟩)))
  | brownout running command run => exact .inr (.inr (.inr (.inr (.inl ⟨running, rfl, command, run⟩))))
  | back brownout command run => exact .inr (.inr (.inr (.inr (.inr (.inl ⟨brownout, rfl, command, run⟩)))))
  | restart pending => exact .inr (.inr (.inr (.inr (.inr (.inr ⟨rfl, .inl ⟨lawful pending, pending⟩⟩)))))
  | obeyed f restarts taken =>
    obtain ⟨b, body, command, address⟩ := restarts
    refine .inr (.inr (.inr (.inr (.inr (.inr ⟨rfl, .inr ?_⟩)))))
    obtain row | ⟨sent, g, mem, phase⟩ := taken
    · obtain ⟨source, option, payload, rfl⟩ := eq_restart_of_frameOf wf row body command
      exact .inl ⟨source, b.target, option, payload, rfl, address⟩
    · exact .inr ⟨sent, g, mem, f, b, phase, body, command⟩

/-- Settles O44: both rows answer the blank station. -/
theorem powerOnAndSupplyFailure : Obligations.PowerOnAndSupplyFailure := by
  intro s blank
  have cell (i : Fin 12) : blank.cell i = .blank := fullStart_cell s i
  have line (l : Fin 12) : blank.line l = .blank := fullStart_line s l
  refine ⟨rfl, rfl, rfl, rfl, rfl, rfl, rfl, rfl, rfl, rfl, rfl, rfl, rfl, rfl, rfl, rfl, fun i => ?_, fun l => ?_⟩
  · rw [cell]
    exact ⟨rfl, rfl, rfl, rfl, rfl, rfl, rfl, rfl⟩
  · rw [line]
    exact ⟨rfl, rfl, rfl, rfl, rfl, rfl, rfl, rfl⟩

end

section
/-! Start-up: the third silent addressing, the checks of a load in their order, its two ends, and the fault minute. -/

namespace Sys2Proof.Machine

variable {s : State} {m : Memory} {i : Image}

/-- A 16-bit field is its high byte times 256 plus its low byte (R169). -/
theorem word16_toNat (hi lo : Byte) : (word16 hi lo).toNat = 256 * hi.toNat + lo.toNat := by
  rw [word16, BitVec.toNat_append, ← Nat.shiftLeft_add_eq_or_of_lt lo.isLt, Nat.shiftLeft_eq]
  omega

/-- The CRC agrees where its value is that of the two bytes behind the records (R158, R169). -/
theorem imageCrcAgrees_iff (articles cells : Nat) :
    imageCrcAgrees m articles cells = true ↔
      (crc16 (Memory.bytes m 0 (14 + 16 * articles + 8 * cells))).toNat =
        256 * Memory.u8 m (14 + 16 * articles + 8 * cells) + Memory.u8 m (14 + 16 * articles + 8 * cells + 1) := by
  rw [imageCrcAgrees, beq_iff_eq, ← BitVec.toNat_inj, word16_toNat]
  rfl

theorem checkImage_of_mark (mark : Memory.u8 m 0 ≠ 0x2E) : checkImage m = .failed .imageStructure 0 := if_pos mark

theorem checkImage_of_counts (mark : Memory.u8 m 0 = 0x2E) (counts : 11 < articleCountField m ∨ 11 < cellCountField m) :
    checkImage m = .failed .imageStructure 0 := by
  have marked : ¬ Memory.u8 m 0 ≠ Config.formatMark := not_not.mpr mark
  rw [checkImage, if_neg marked, if_pos counts]

/-- Past format mark and counts, the CRC and then the station number decide the fault (R158). -/
theorem checkImage_of_counts_hold (mark : Memory.u8 m 0 = 0x2E) (articles : articleCountField m ≤ 11)
    (cells : cellCountField m ≤ 11) :
    (imageCrcAgrees m (articleCountField m + 1) (cellCountField m + 1) = false → checkImage m = .failed .imageCrc 0) ∧
      (imageCrcAgrees m (articleCountField m + 1) (cellCountField m + 1) = true →
        Memory.u8 m 1 = 0 ∨ 30 < Memory.u8 m 1 → checkImage m = .failed .imageStation 0) := by
  have counts : ¬ (11 < articleCountField m ∨ 11 < cellCountField m) := by omega
  have marked : ¬ Memory.u8 m 0 ≠ Config.formatMark := not_not.mpr mark
  unfold checkImage
  rw [if_neg marked, if_neg counts]
  refine ⟨fun crc => ?_, fun crc number => ?_⟩
  · simp [crc]
  · have outside : (readImage m (articleCountField m + 1) (cellCountField m + 1)).number < 1 ∨
        30 < (readImage m (articleCountField m + 1) (cellCountField m + 1)).number := number.imp_left Nat.lt_one_iff.mpr
    simp only [crc, Bool.not_true, Bool.false_eq_true, if_false, if_pos outside]

/-- The load as the memory of its operand gives it. -/
theorem exec_imageLoadEnd (image : List Byte) (runs : s.loadRuns = true) :
    exec (.imageLoadEnd image) s = .next ({ s with eeprom := Memory.ofBytes image } : State).endLoad :=
  congrArg Host.Outcome.next (if_pos runs)

theorem exec_imageLoadEnd_of_stopped (image : List Byte) (stopped : s.loadRuns = false) :
    exec (.imageLoadEnd image) s = .next s :=
  congrArg Host.Outcome.next (if_neg (by simp [stopped]))

theorem endLoad_of_failed {fault : FaultCode} {number : Nat} (checks : checkImage s.eeprom = .failed fault number) :
    s.endLoad = s.enterUnconfigured fault number := by
  rw [State.endLoad, checks]

theorem endLoad_of_passed (checks : checkImage s.eeprom = .passed i) :
    s.endLoad = s.enterRunning (clampImage i) (imageClampedBy i) := by
  rw [State.endLoad, checks]

/-! ### The built station -/

/-- Two cell records of an image that passed name different cells, so a cell has one (R159). -/
theorem imageCellRecord_of_mem {c : ImageCell} {k l : Fin 12} (distinct : (i.cells.map ImageCell.cell).Nodup) (mem : c ∈ i.cells)
    (cell : c.cell = k.val) (article : c.article = l.val) :
    imageCellRecord i k = { CellRecord.blank with
      state := .warming, line := some l, zeroOffset := c.zeroOffset, gain := c.gain, tray := c.tray
      warmUp := 32, firstRest := true } := by
  have found : i.cells.find? (fun d => d.cell == k.val) = some c := by
    obtain ⟨d, found⟩ : ∃ d, i.cells.find? (fun d => d.cell == k.val) = some d :=
      Option.isSome_iff_exists.mp (List.find?_isSome.mpr ⟨c, mem, by simpa using cell⟩)
    have same : d.cell = c.cell := by rw [cell]; simpa using List.find?_some found
    rw [found, List.inj_on_of_nodup_map distinct (List.mem_of_find?_eq_some found) mem same]
  have line : (if h : c.article < 12 then some (⟨c.article, h⟩ : Fin 12) else none) = some l := by
    rw [dif_pos (article ▸ l.isLt)]
    exact congrArg some (Fin.ext article)
  unfold imageCellRecord
  rw [found]
  simp only [line, Config.warmUpStart]

theorem imageCellRecord_of_unnamed {k : Fin 12} (unnamed : ∀ c ∈ i.cells, c.cell ≠ k.val) : imageCellRecord i k = .blank := by
  have none : i.cells.find? (fun c => c.cell == k.val) = none := by simpa using unnamed
  rw [imageCellRecord, none]

theorem imageLine_of_none {l : Fin 12} (none : i.articles[l.val]? = none) : imageLine i l = .blank := by
  rw [imageLine, none]

theorem imageLine_of_some {l : Fin 12} {a : ArticleRecord} (some : i.articles[l.val]? = some a) :
    imageLine i l = { ArticleLine.blank with
      state := .joining
      config := ⟨a.code, a.unitWeight, a.tolerance, a.reorder, a.margin, a.reminderMinutes, a.restockMinutes,
        allTwelve.filter (fun k => ∃ c ∈ i.cells, c.cell = k.val ∧ c.article = l.val)⟩ } := by
  have cells : cellsOfArticle i l.val = allTwelve.filter (fun k => ∃ c ∈ i.cells, c.cell = k.val ∧ c.article = l.val) :=
    List.filter_congr fun k _ => by rw [Bool.eq_iff_iff]; simp
  rw [imageLine, some]
  simp only [cells]

/-- The checks of the records hold for an image that passed. -/
theorem structureHolds_of_passed (passed : checkImage m = .passed i) : structureHolds i = true := by
  unfold checkImage at passed
  dsimp only at passed
  split_ifs at passed with mark counts crc number structural
  obtain rfl := LoadEnd.passed.inj passed
  simpa using structural

/-- The clamps leave the cell numbers. -/
theorem clampImage_cell (i : Image) : (clampImage i).cells.map ImageCell.cell = i.cells.map ImageCell.cell := by
  rw [clampImage, List.map_map]
  rfl

end Sys2Proof.Machine

open Sys2Proof Sys2Proof.Machine

/-- Settles O45: the run of silent addressings decides. -/
theorem thirdSilentAddressingEndsTheLoad : Obligations.ThirdSilentAddressingEndsTheLoad := by
  intro s position answered run
  refine ⟨fun loading kept => ?_, fun stopped => ?_⟩
  · have answers : exec (.eepromNoAnswer ⟨position, answered⟩) s = .next (if 3 ≤ run then s.enterUnconfigured .eepromSilent 0
        else { s with loader := ⟨run, position, false⟩ }) :=
      congrArg Host.Outcome.next (noAnswer_of_runs _ (loadRuns_iff.mpr ⟨loading, kept⟩))
    exact ⟨fun below => by rw [answers, if_neg (by omega)], fun third => by rw [answers, if_pos third]; rfl⟩
  · exact congrArg Host.Outcome.next (noAnswer_of_stopped _ (loadRuns_eq_false_iff.mpr stopped))

/-- Settles O47: the checks one after the other. -/
theorem earlierChecksDecideTheFault : Obligations.EarlierChecksDecideTheFault := by
  refine ⟨fun m => ?_, checkImage_of_mark (by decide)⟩
  intro a c size Agrees
  refine ⟨checkImage_of_mark, fun mark => ⟨checkImage_of_counts mark, fun articles cells => ?_⟩⟩
  have agrees : imageCrcAgrees m (a + 1) (c + 1) = true ↔ Agrees := imageCrcAgrees_iff _ _
  obtain ⟨crc, number⟩ := checkImage_of_counts_hold mark articles cells
  exact ⟨fun differs => crc (Bool.eq_false_iff.mpr (mt agrees.mp differs)), fun same => number (agrees.mpr same)⟩

/-- Settles O49, by the end of a failed load and the fault minute. -/
theorem failedLoadIsUnconfigured : Obligations.FailedLoadIsUnconfigured := by
  intro s image fault number
  refine ⟨fun loading kept failed => ?_, fun stopped => ?_, fun unconfigured of_load => ?_, fun other => ?_⟩
  · rw [exec_imageLoadEnd image (loadRuns_iff.mpr ⟨loading, kept⟩), endLoad_of_failed (s := { s with eeprom := Memory.ofBytes image }) failed]
    rfl
  · exact exec_imageLoadEnd_of_stopped image (loadRuns_eq_false_iff.mpr stopped)
  · refine congrArg Host.Outcome.next ?_
    unfold State.faultMinute
    split
    next found =>
      obtain rfl := Option.some.inj (of_load.symm.trans found)
      rfl
    next other => exact absurd of_load (other fault unconfigured)
  · refine congrArg Host.Outcome.next ?_
    unfold State.faultMinute
    split
    · exact absurd ‹_› other
    · rfl

/-- Settles O50: the built station, field by field, lines and cells by their records. -/
theorem loadEndsInRunning : Obligations.LoadEndsInRunning := by
  intro s image i j loading kept passed
  have distinct : (j.cells.map ImageCell.cell).Nodup := by
    rw [clampImage_cell]
    obtain ⟨-, distinct, -⟩ := (structureHolds_iff i).mp (structureHolds_of_passed passed)
    exact distinct
  refine ⟨({ s with eeprom := Memory.ofBytes image } : State).built j (imageClampedBy i), ?_, rfl, rfl, rfl, ?_, rfl, rfl, rfl, rfl,
    imageClampedBy_iff i, rfl, rfl, rfl, rfl, rfl, rfl, rfl, rfl, rfl, rfl, rfl, rfl, rfl, rfl, rfl, rfl, ?_, ?_, ?_, ?_, ?_⟩
  · rw [exec_imageLoadEnd image (loadRuns_iff.mpr ⟨loading, kept⟩), endLoad_of_passed (s := { s with eeprom := Memory.ofBytes image }) passed]
    rfl
  · exact List.filter_congr fun p _ => by rw [Bool.eq_iff_iff]; simp
  · exact fun l none => (built_line _ _ _ l).trans (imageLine_of_none none)
  · exact fun l a found => (built_line _ _ _ l).trans (imageLine_of_some found)
  · exact fun k unnamed => (built_cell _ _ _ k).trans (imageCellRecord_of_unnamed unnamed)
  · exact fun k l c mem cell article => (built_cell _ _ _ k).trans (imageCellRecord_of_mem distinct mem cell article)
  · intro b range
    refine (hashOf_getLsbD _ b range).trans ?_
    simp

end

section
/-! The end of an event (R136, R144, R164), and the frame of the queue that is being sent. -/

namespace Sys2Proof.Machine

variable {s : State} {f : SendFrame} {before after : List SendFrame}

/-! ### The end of an event -/

theorem restartDue_eq_false_iff :
    s.restartDue = false ↔ s.restartPending = none ∨ ∃ f ∈ s.queue, s.restartPending = some f.age := by
  unfold State.restartDue
  split
  next clear => simp [clear]
  next age mark =>
    have names (f : SendFrame) : f.age = age ↔ age = f.age := eq_comm
    simp [mark, names]

theorem isCensus_eq_false_iff {c : Content} : isCensus c = false ↔ ∀ codes, c ≠ .census codes := by
  cases c <;> simp [isCensus]

theorem openCensusWindow_of_gone (queued : s.census = .queued) (gone : ∀ f ∈ s.queue, ∀ codes, f.content ≠ .census codes) :
    s.openCensusWindow = { s with census := .window s.clock } :=
  if_pos ⟨queued, List.any_eq_false.mpr fun f hf => Bool.eq_false_iff.mp (isCensus_eq_false_iff.mpr (gone f hf))⟩

theorem openCensusWindow_of_held (held : ¬ (s.census = .queued ∧ ∀ f ∈ s.queue, ∀ codes, f.content ≠ .census codes)) :
    s.openCensusWindow = s :=
  if_neg fun ⟨queued, gone⟩ => held ⟨queued, fun f hf => isCensus_eq_false_iff.mp
    (Bool.eq_false_iff.mpr (List.any_eq_false.mp gone f hf))⟩

@[simp] theorem openCensusWindow_restartDue (s : State) : s.openCensusWindow.restartDue = s.restartDue := by
  unfold State.openCensusWindow
  split <;> rfl

@[simp] theorem openCensusWindow_fullStart (s : State) : s.openCensusWindow.fullStart = s.fullStart := by
  unfold State.openCensusWindow
  split <;> rfl

theorem finish_eq (s : State) : s.finish = if s.restartDue then s.fullStart else s.openCensusWindow := by
  simp [State.finish]

theorem finish_of_held (held : s.restartPending = none ∨ ∃ f ∈ s.queue, s.restartPending = some f.age) :
    s.finish = s.openCensusWindow := by
  rw [finish_eq, restartDue_eq_false_iff.mpr held]
  rfl

theorem finish_of_due (due : ¬ (s.restartPending = none ∨ ∃ f ∈ s.queue, s.restartPending = some f.age)) :
    s.finish = s.fullStart := by
  rw [finish_eq, if_pos (Bool.of_not_eq_false (mt restartDue_eq_false_iff.mp due))]

/-! ### A frame of a bounded queue -/

section
variable (bounded : s.QueueBounded) (split : s.queue = before ++ f :: after)
include bounded split

/-- No other frame has the age of this one. -/
theorem age_ne_of_split : ∀ g ∈ before ++ after, g.age ≠ f.age := by
  obtain ⟨-, -, -, ages⟩ := bounded
  rw [split, List.map_append, List.map_cons, List.pairwise_append, List.pairwise_cons] at ages
  obtain ⟨-, ⟨younger, -⟩, older⟩ := ages
  intro g hg
  obtain hg | hg := List.mem_append.mp hg
  · exact (older g.age (List.mem_map_of_mem hg) f.age List.mem_cons_self).ne
  · exact (younger g.age (List.mem_map_of_mem hg)).ne'

theorem leaveQueue_of_split : s.leaveQueue f.age = { s with queue := before ++ after } := by
  have others := age_ne_of_split bounded split
  have stay (list : List SendFrame) (h : ∀ g ∈ list, g ∈ before ++ after) : list.filter (fun g => g.age != f.age) = list :=
    List.filter_eq_self.mpr fun g hg => by simpa using others g (h g hg)
  rw [State.leaveQueue, split, List.filter_append, List.filter_cons, stay before (by simp +contextual), stay after (by simp +contextual)]
  simp

/-- A frame of this age takes the place of this one. -/
theorem replaceFrame_of_split {g : SendFrame} (age : g.age = f.age) :
    s.replaceFrame g = { s with queue := before ++ g :: after } := by
  have others := age_ne_of_split bounded split
  have stay (list : List SendFrame) (h : ∀ x ∈ list, x ∈ before ++ after) :
      list.map (fun x => if x.age == g.age then g else x) = list := by
    conv_rhs => rw [← List.map_id list]
    exact List.map_congr_left fun x hx => if_neg (by simpa [age] using others x (h x hx))
  rw [replaceFrame_eq, split, List.map_append, List.map_cons, stay before (by simp +contextual), stay after (by simp +contextual)]
  simp [age]

/-- The others wait while this one is being sent (R131). -/
theorem waiting_of_split (sends : f.phase ≠ .waiting) : ∀ g ∈ before ++ after, g.phase = .waiting := by
  obtain ⟨-, one, -, -⟩ := bounded
  have sending : f.isWaiting = false := by simpa using mt SendFrame.isWaiting_iff.mp sends
  simp only [split, List.filter_append, List.filter_cons, sending, Bool.not_false, if_true, List.length_append, List.length_cons] at one
  have none : ((before ++ after).filter (fun g => !g.isWaiting)) = [] := by
    rw [List.filter_append, ← List.length_eq_zero_iff, List.length_append]
    omega
  intro g hg
  have := List.filter_eq_nil_iff.mp none g hg
  exact SendFrame.isWaiting_iff.mp (by simpa using this)

theorem sendingFrame_of_split (sends : f.phase ≠ .waiting) : s.sendingFrame = some f := by
  have waits := waiting_of_split bounded split sends
  have older : before.find? (fun g => !g.isWaiting) = none := by
    simpa using fun g hg => SendFrame.isWaiting_iff.mpr (waits g (List.mem_append_left _ hg))
  have sending : f.isWaiting = false := by simpa using mt SendFrame.isWaiting_iff.mp sends
  simp [State.sendingFrame, split, List.find?_append, older, sending]

end

theorem sendingFrame_eq_none (waits : ∀ g ∈ s.queue, g.phase = .waiting) : s.sendingFrame = none := by
  simpa [State.sendingFrame] using fun g hg => SendFrame.isWaiting_iff.mpr (waits g hg)

theorem lineOn_iff : s.lineOn = true ↔ s.station = .running ∨ s.station = .unconfigured := by simp [State.lineOn]

theorem lineOn_eq_false_iff : s.lineOn = false ↔ s.station ≠ .running ∧ s.station ≠ .unconfigured := by
  rw [← Bool.not_eq_true, lineOn_iff, not_or]

theorem timersRun_iff : s.timersRun = true ↔ s.station = .running ∨ s.station = .brownout := by simp [State.timersRun]

/-- The frame being sent has left the queue where its attempt succeeds, and is taken here (R118). -/
theorem succeed_of_split {frame : Frame} (bounded : s.QueueBounded) (split : s.queue = before ++ f :: after)
    (phase : f.phase = .sending frame) (on : s.station = .running ∨ s.station = .unconfigured) :
    s.succeed =
      (({ s with queue := before ++ after } : State).atLastStop frame).awaitIdle.takeFrame frame := by
  have sends : f.phase ≠ .waiting := by simp [phase]
  have formed : f.formed = some frame := by simp [SendFrame.formed, phase]
  rw [State.succeed, sendingFrame_of_split bounded split sends]
  dsimp only
  rw [formed, ← leaveQueue_of_split bounded split]
  exact if_pos (lineOn_iff.mpr on)

/-- No block acts on a STATUS (R129). -/
theorem takeFrame_of_status {frame : Frame} {body : StatusBody} (status : frame.body = .status body) :
    s.takeFrame frame = s.countTaken.setLastSender (sourceStation frame.source) := by
  rw [State.takeFrame, status, State.act]

theorem succeed_of_waiting (waits : ∀ g ∈ s.queue, g.phase = .waiting) : s.succeed = s := by
  rw [State.succeed, sendingFrame_eq_none waits]

end Sys2Proof.Machine

open Sys2Proof Sys2Proof.Machine

/-- Settles O54, from what an event ends with; a STATUS that is taken here acts on nothing. -/
theorem eventEndsInWindowOrRestart : Obligations.EventEndsInWindowOrRestart := by
  intro s blank Held Gone
  refine ⟨fun held ⟨queued, gone⟩ => ?_, fun held kept => ?_, finish_of_due, ?_⟩
  · rw [finish_of_held held, openCensusWindow_of_gone queued gone]
  · rw [finish_of_held held, openCensusWindow_of_held kept]
  · intro before f after frame body running bounded split phase status mark
    have sent := succeed_of_split bounded split phase (.inl running)
    rw [takeFrame_of_status status] at sent
    have mark' : s.succeed.restartPending = some f.age := by simpa [sent] using mark
    have queue : s.succeed.queue = before ++ after := by simp [sent]
    have due : ¬ (s.succeed.restartPending = none ∨ ∃ g ∈ s.succeed.queue, s.succeed.restartPending = some g.age) := by
      rw [mark', queue]
      simpa [eq_comm] using age_ne_of_split bounded split
    refine congrArg Host.Outcome.next ((finish_of_due due).trans ?_)
    simp [sent, State.fullStart, blank]

end

section
/-! The staff key and the lamps (chapter 9). -/

namespace Sys2Proof.Machine

variable {s : State} {i j : Fin 12}

/-! ### The staff key -/

/-- The station at a change of the key: at least 20 ms behind the moment from which the reading can have begun (R152; log entry 16). -/
theorem settleKey_eq (s : State) :
    s.settleKey = { s with
      clock := max s.clock (s.key.readFrom + 2000)
      key := { s.key with readFrom := max s.clock (s.key.readFrom + 2000) } } := rfl

/-- A COMMAND is asked for where its list is not empty (R153 to R155). -/
theorem requestCommand_eq (s : State) (command : CommandCode) (codes : List Code) :
    s.requestCommand command codes = if codes = [] then s else s.request (.command command codes) := by
  simp [State.requestCommand]

theorem shortPress_eq (s : State) :
    s.shortPress =
      s.requestCommand (if s.codesIn (· == .restocking) = [] then .restockBegin else .restockEnd)
        (if s.codesIn (· == .restocking) = [] then s.codesIn (fun x => x == .raised || x == .held)
          else s.codesIn (· == .restocking)) := by
  simp only [State.shortPress, List.isEmpty_iff]
  split <;> rfl

theorem closeKey_of_other (other : s.station ≠ .running ∨ s.key.press ≠ none) : s.closeKey = s :=
  if_neg (by tauto)

theorem closeKey_of_open (running : s.station = .running) (press : s.key.press = none) :
    s.closeKey =
      if s.key.awaitOpen then s.settleKey
      else { s.settleKey with key := { s.settleKey.key with press := some ⟨s.settleKey.clock, false⟩ } } :=
  if_pos ⟨running, press⟩

/-- The station once the key is open: the unit waits no longer, and no press is under way (R152). -/
def State.opened (s : State) : State :=
  { s with
    clock := max s.clock (s.key.readFrom + 2000)
    key := ⟨false, max s.clock (s.key.readFrom + 2000), none⟩ }

theorem openKey_of_other (other : s.station ≠ .running) : s.openKey = s := if_neg other

theorem openKey_of_no_press (running : s.station = .running) (press : s.key.press = none) :
    s.openKey = if s.key.awaitOpen then s.opened else s := by
  unfold State.openKey
  dsimp only
  rw [if_pos running, press]
  rfl

theorem openKey_of_press {p : Press} (running : s.station = .running) (press : s.key.press = some p) :
    s.openKey =
      if p.classified = false ∧ max s.clock (s.key.readFrom + 2000) < p.since + 100000 then s.opened.shortPress else s.opened := by
  unfold State.openKey
  dsimp only
  rw [if_pos running, press]
  rfl

theorem holdKey_of_other (other : s.station ≠ .running ∨ ∀ since, s.key.press ≠ some ⟨since, false⟩) : s.holdKey = s := by
  unfold State.holdKey
  split
  · rfl
  next p press =>
    refine if_neg fun ⟨running, open'⟩ => ?_
    obtain other | other := other
    · exact other running
    · exact other p.since (by rw [press, ← open'])

theorem holdKey_of_press {since : Nat} (running : s.station = .running) (press : s.key.press = some ⟨since, false⟩) :
    s.holdKey =
      State.requestCommand { s with clock := max s.clock (since + 300000), key := { s.key with press := some ⟨since, true⟩ } } .ack
        (s.codesIn (· == .raised)) := by
  unfold State.holdKey
  rw [press]
  exact if_pos ⟨running, rfl⟩

/-! ### The lamps -/

theorem lampPattern_of_unused (running : s.station = .running) (unused : (s.cell i).state = .unused) : s.lampPattern i = .off := by
  rw [State.lampPattern, running]
  exact if_pos unused

theorem lampPattern_of_used {l : Fin 12} (running : s.station = .running) (used : (s.cell i).state ≠ .unused)
    (line : (s.cell i).line = some l) : s.lampPattern i = usedPattern (s.cell i) (s.line l).alert := by
  rw [State.lampPattern, running]
  dsimp only
  rw [if_neg used, State.alertOfCell, State.lineOfCell, line]

/-- The rows of R149's table, in their order. -/
theorem usedPattern_rows (c : CellRecord) (r : AlertRecord) :
    let Flashes := c.state = .fault ∨ c.state = .unsteady ∨ c.balance ≠ 0
    let Stands := r.state = .raised ∨ r.state = .held
    (Flashes → usedPattern c r = .doubleFlash) ∧
    (¬ Flashes → c.strays ≠ [] → usedPattern c r = .fastBlink) ∧
    (¬ Flashes → c.strays = [] → Stands → r.urgency = 2 ∨ r.urgency = 3 → usedPattern c r = .steady) ∧
    (¬ Flashes → c.strays = [] → Stands → r.urgency = 1 → usedPattern c r = .slowBlink) ∧
    (¬ Flashes → c.strays = [] → ¬ Stands ∨ r.urgency = 0 → usedPattern c r = .off) := by
  intro Flashes Stands
  have still (quiet : ¬ Flashes) (empty : c.strays = []) : usedPattern c r =
      if Stands ∧ 2 ≤ r.urgency then .steady else if Stands ∧ r.urgency = 1 then .slowBlink else .off := by
    rw [usedPattern, if_neg quiet, if_neg (not_not.mpr empty)]
  refine ⟨fun flashes => if_pos flashes, fun quiet stray => ?_, fun quiet empty stands urgency => ?_,
    fun quiet empty stands urgency => ?_, fun quiet empty silent => ?_⟩
  · rw [usedPattern, if_neg quiet, if_pos stray]
  · rw [still quiet empty, if_pos ⟨stands, by omega⟩]
  · rw [still quiet empty, if_neg fun ⟨_, high⟩ => by omega, if_pos ⟨stands, urgency⟩]
  · have no_row (stands : Stands) : r.urgency = 0 := silent.resolve_left (not_not.mpr stands)
    rw [still quiet empty, if_neg fun ⟨stands, high⟩ => by have := no_row stands; omega,
      if_neg fun ⟨stands, one⟩ => by have := no_row stands; omega]

end Sys2Proof.Machine

open Sys2Proof Sys2Proof.Machine

/-- Settles O42, by the key's change and what the press has lasted. -/
theorem keyPressesAskForCommands : Obligations.KeyPressesAskForCommands := by
  intro s Codes Asked now opened
  have asked (t : State) (command : CommandCode) (codes : List Code) : t.requestCommand command codes = Asked t command codes :=
    requestCommand_eq t command codes
  have next {t u : State} (h : t = u) : Host.Outcome.next (φ := Fault) (ρ := Refusal) t.finish = .next u.finish := by rw [h]
  refine ⟨fun running => ⟨fun press waits => ⟨?_, ?_⟩, fun press waits => ⟨?_, ?_⟩, fun press => ?_, ?_, ?_, ?_, ?_⟩,
    fun other => ⟨?_, ?_, ?_⟩, fun press => ?_⟩
  · refine congrArg Host.Outcome.next ((closeKey_of_open running press).trans ?_)
    simp [settleKey_eq, waits, now]
  · exact next ((openKey_of_no_press running press).trans (by simp [waits]))
  · refine congrArg Host.Outcome.next ((closeKey_of_open running press).trans ?_)
    simp [settleKey_eq, waits, press, now]
  · exact next ((openKey_of_no_press running press).trans (by simp [waits, State.opened, opened, now]))
  · exact congrArg Host.Outcome.next (closeKey_of_other (.inr press))
  · intro since press
    obtain press | ⟨press, long⟩ := press
    · exact next ((openKey_of_press running press).trans (if_neg (by simp)))
    · exact next ((openKey_of_press running press).trans (if_neg fun ⟨_, short⟩ => absurd short (not_lt.mpr long)))
  · intro since press short restocking raised
    exact next ((openKey_of_press running press).trans ((if_pos ⟨rfl, short⟩).trans ((shortPress_eq _).trans (asked _ _ _))))
  · intro since press
    exact next ((holdKey_of_press running press).trans (asked _ _ _))
  · intro since press
    exact next (holdKey_of_other (.inr (by simp [press])))
  · exact congrArg Host.Outcome.next (closeKey_of_other (.inl other))
  · exact next (openKey_of_other other)
  · exact next (holdKey_of_other (.inl other))
  · exact next (holdKey_of_other (.inr (by simp [press])))

/-- Settles O43, by the first row of the table that holds, and the stretches of each pattern. -/
theorem lampShowsTheFirstRowThatHolds : Obligations.LampShowsTheFirstRowThatHolds := by
  refine ⟨fun s i l => ?_, fun s i j => ?_⟩
  · intro c r Flashes Stands
    refine ⟨fun running used line range => ?_, lampPattern_of_unused, fun station => ?_, fun station => ?_⟩
    · rw [lampPattern_of_used running used line]
      exact usedPattern_rows _ _
    · rw [State.lampPattern, station]
    · obtain station | station | station := station <;> rw [State.lampPattern, station]
  · intro p
    have lit (x : Pattern) (h : s.lampPattern i = x) : s.lampLit i = x.litAt p := by rw [State.lampLit, h]; rfl
    refine ⟨fun h => ?_, fun h => ?_, fun h => ?_, fun h => ?_, fun h => ?_, fun same => ?_⟩
    · simp [lit _ h, Pattern.litAt, inStretch_eq_true]
    · simp [lit _ h, Pattern.litAt, inStretch_eq_true, or_assoc]
    · rw [lit _ h]; rfl
    · simp [lit _ h, Pattern.litAt, inStretch_eq_true]
    · rw [lit _ h]; rfl
    · rw [State.lampLit, State.lampLit, same]

end
section
/-! What a step is (log entry 2), and the TALLY phase. -/

namespace Sys2Proof.Machine

variable {s : State} {c : Instr} {l : Fin 12}

theorem clockRuns_eq_false_iff : s.clockRuns = false ↔ s.station = .loading ∨ s.station = .off := by
  cases h : s.station <;> simp [State.clockRuns, State.lineOn, State.timersRun, h]

/-- One bit time, field by field. -/
theorem passBitTime_eq (s : State) :
    s.passBitTime = { s with
      clock := if s.station = .loading ∨ s.station = .off then s.clock else s.clock + 1
      lineLow := s.lineLow - 1
      access := { s.access with
        quiet :=
          if (s.station = .running ∨ s.station = .unconfigured) ∧ s.access.idle = false ∧ (∀ f ∈ s.queue, f.phase = .waiting) ∧
              s.lineLow = 0 then min 20 (s.access.quiet + 1) else s.access.quiet
        round := s.access.round.map (fun r => ⟨r.next, r.elapsed + 1⟩) } } := by
  simp only [State.passBitTime, State.quietAfter, lineOn_iff, isSending_eq_false, ← clockRuns_eq_false_iff, Config.idleQuiet]
  cases s.clockRuns <;> rfl

theorem mem_dueOfLine : c ∈ s.dueOfLine ↔
    (c = .lineIdle ∧ s.access.idle = false ∧ (∀ f ∈ s.queue, f.phase = .waiting) ∧ 20 ≤ s.access.quiet) ∨
    ∃ r, s.access.round = some r ∧
      ((c = .contentionSlot r.next ∧ r.next < 96 ∧ 20 * r.next ≤ r.elapsed) ∨
        (c = .roundRepeat ∧ s.access.idle = true ∧ 96 ≤ r.next ∧ 1920 ≤ r.elapsed)) := by
  have idle : c ∈ dueIf (!s.access.idle && !s.isSending && decide (Config.idleQuiet ≤ s.access.quiet)) .lineIdle ↔
      c = .lineIdle ∧ s.access.idle = false ∧ (∀ f ∈ s.queue, f.phase = .waiting) ∧ 20 ≤ s.access.quiet := by
    simp only [mem_dueIf, Bool.and_eq_true, Bool.not_eq_true', isSending_eq_false, decide_eq_true_eq]
    simp only [Config.idleQuiet]
    tauto
  unfold State.dueOfLine
  rw [List.mem_append, idle]
  refine or_congr_right ?_
  split
  next none => simp [none]
  next r round =>
    simp only [List.mem_append, mem_dueIf, Bool.and_eq_true, decide_eq_true_eq, round, Option.some.injEq, exists_eq_left']
    simp only [Config.roundSlots, Config.slotLength, Nat.mul_comm r.next]
    tauto

theorem mem_dueOfCensus : c ∈ s.dueOfCensus ↔
    (c = .censusWindowEnd ∧ ∃ t, s.census = .window t ∧ t + 200000 ≤ s.clock) ∨
    (c = .joiningLimit ∧ ∃ t, s.census = .ended t ∧ t + 6000000 ≤ s.clock ∧ ∃ l, (s.line l).state = .joining) := by
  have joining : s.anyJoining = true ↔ ∃ l, (s.line l).state = .joining := by
    simp [State.anyJoining, State.linesWhere]
  unfold State.dueOfCensus
  split
  next since window =>
    simp only [mem_dueIf, ranFor_eq_true, window]
    simp [Config.censusWindow, Config.second, and_comm]
  next moment ended =>
    simp only [mem_dueIf, Bool.and_eq_true, joining, ended, ranFor_eq_true]
    simp [Config.joiningLimit, Config.second]
    tauto
  next census => simp [census]
  next census => simp [census]

theorem mem_dueOfKey : c ∈ s.dueOfKey ↔
    c = .longPress ∧ s.station = .running ∧ ∃ t, s.key.press = some ⟨t, false⟩ ∧ t + 300000 ≤ s.clock := by
  unfold State.dueOfKey
  split
  next p press =>
    obtain ⟨since, classified⟩ := p
    simp only [mem_dueIf, Bool.and_eq_true, ranFor_eq_true, press]
    simp [Config.longPress, Config.second]
    tauto
  next press => simp [press]

/-- What comes due of one article line. -/
theorem mem_dueOfArticle : c ∈ s.dueOfArticle l ↔
    (∃ e ∈ (s.line l).map, (c = .entryStale l e.station ∧ e.stale = false ∧ e.heardAt + 18000000 ≤ s.clock) ∨
      (c = .entryRemoved l e.station ∧ e.stale = true ∧ e.heardAt + 60000000 ≤ s.clock)) ∨
    (c = .leadTimerExpiry l ∧ ∃ t, (s.line l).leadSince = some t ∧ t + 18000000 ≤ s.clock) ∨
    (c = .claimTimerExpiry l ∧ ∃ t, (s.line l).claimSince = some t ∧ t + s.number * 25000 ≤ s.clock) ∨
    (c = .startHoldExpiry l ∧ ∃ t, (s.line l).holdSince = some t ∧ t + 1000000 ≤ s.clock) ∨
    (c = .reminderTimerExpiry l ∧ ∃ t, (s.line l).alert.reminderSince = some t ∧
      t + (s.line l).config.reminderMinutes * 6000000 ≤ s.clock) ∨
    (c = .restockTimerExpiry l ∧ ∃ t, (s.line l).alert.restockSince = some t ∧
      t + (s.line l).config.restockMinutes * 6000000 ≤ s.clock) := by
  have entry (e : MapEntry) :
      c ∈ dueIf (!e.stale && s.ranFor (some e.heardAt) Config.staleAfter) (.entryStale l e.station) ++
          dueIf (e.stale && s.ranFor (some e.heardAt) Config.removedAfter) (.entryRemoved l e.station) ↔
        (c = .entryStale l e.station ∧ e.stale = false ∧ e.heardAt + 18000000 ≤ s.clock) ∨
          (c = .entryRemoved l e.station ∧ e.stale = true ∧ e.heardAt + 60000000 ≤ s.clock) := by
    simp only [List.mem_append, mem_dueIf, Bool.and_eq_true, Bool.not_eq_true', ranFor_eq_true, Option.some.injEq, exists_eq_left']
    simp only [Config.staleAfter, Config.removedAfter, Config.second, Nat.reduceMul]
    tauto
  have timer (since : Option Nat) (length : Nat) (expiry : Instr) :
      c ∈ dueIf (s.ranFor since length) expiry ↔ c = expiry ∧ ∃ t, since = some t ∧ t + length ≤ s.clock := by
    rw [mem_dueIf, ranFor_eq_true, and_comm]
  have entries : c ∈ (s.line l).map.flatMap (fun e =>
        dueIf (!e.stale && s.ranFor (some e.heardAt) Config.staleAfter) (.entryStale l e.station) ++
          dueIf (e.stale && s.ranFor (some e.heardAt) Config.removedAfter) (.entryRemoved l e.station)) ↔ _ :=
    List.mem_flatMap.trans (exists_congr fun e => and_congr_right fun _ => entry e)
  simp only [State.dueOfArticle, List.mem_append, entries, timer, or_assoc]
  rfl

/-- A list that stands under a condition. -/
theorem mem_ite_nil {b : Bool} {list : List Instr} : c ∈ (if b then list else []) ↔ b = true ∧ c ∈ list := by cases b <;> simp

theorem mem_due : c ∈ s.due ↔
    (c = .unconfiguredFaultMinute ∧ s.station = .unconfigured ∧ s.loadFault ≠ none ∧ s.faultAt ≤ s.clock) ∨
    ((s.station = .running ∨ s.station = .unconfigured) ∧ c ∈ s.dueOfLine) ∨
    ((s.station = .running ∨ s.station = .brownout) ∧
      ((c = .departureExpiry ∧ ∃ e ∈ s.log, e.enteredAt + s.strayWindow * 6000000 ≤ s.clock) ∨ c ∈ s.dueOfCensus ∨
        (c = .tallyPhase ∧ s.tallyAt ≤ s.clock) ∨ (∃ l, c ∈ s.dueOfArticle l) ∨ c ∈ s.dueOfKey)) := by
  have minute : c ∈ dueIf (s.station == .unconfigured && s.loadFault.isSome && decide (s.faultAt ≤ s.clock)) .unconfiguredFaultMinute ↔
      c = .unconfiguredFaultMinute ∧ s.station = .unconfigured ∧ s.loadFault ≠ none ∧ s.faultAt ≤ s.clock := by
    simp only [mem_dueIf, Bool.and_eq_true, beq_iff_eq, Option.isSome_iff_ne_none, decide_eq_true_eq]
    tauto
  have expiry : c ∈ (s.log.filter (fun e => decide (s.expiryOf e ≤ s.clock))).map (fun _ => Instr.departureExpiry) ↔
      c = .departureExpiry ∧ ∃ e ∈ s.log, e.enteredAt + s.strayWindow * 6000000 ≤ s.clock := by
    simp only [List.mem_map, List.mem_filter, decide_eq_true_eq]
    exact ⟨fun ⟨e, held, row⟩ => ⟨row.symm, e, held⟩, fun ⟨row, e, held⟩ => ⟨e, held, row.symm⟩⟩
  have phase : c ∈ dueIf (decide (s.tallyAt ≤ s.clock)) .tallyPhase ↔ c = .tallyPhase ∧ s.tallyAt ≤ s.clock := by
    rw [mem_dueIf, decide_eq_true_eq, and_comm]
  have articles : c ∈ allTwelve.flatMap s.dueOfArticle ↔ ∃ l, c ∈ s.dueOfArticle l := by simp
  simp only [State.due, List.mem_append, minute, mem_ite_nil, expiry, phase, articles, or_assoc]
  simp only [lineOn_iff, timersRun_iff]

end Sys2Proof.Machine

open Sys2Proof Sys2Proof.Machine

/-- Settles O52, by what comes due of each block. -/
theorem stepRunsFrontCommand : Obligations.StepRunsFrontCommand := by
  intro s c rest On Silent Ran OfLine OfArticle
  refine ⟨fun queue => ?_, fun idle due => ?_, fun idle due => ?_, ?_, fun _ _ => rfl⟩
  · rw [step, queue]
  · obtain ⟨none, -⟩ | ⟨-, queued⟩ := tick_cases s
    · exact absurd none due
    · simp only [step, idle]
      rw [queued]
  · obtain ⟨-, one⟩ | ⟨some, -⟩ := tick_cases s
    · simp only [step, idle]
      rw [one, passBitTime_eq, idle]
    · exact absurd due some
  · rw [mem_due, mem_dueOfLine, mem_dueOfCensus, mem_dueOfKey, or_assoc]
    simp only [mem_dueOfArticle]
    rfl

end

section
/-! The moments of the lines: leaving JOINING (4.8), silent peers and the lead and claim timers (4.9), the TALLY phase (4.7), and the
evaluation with what it asks for (5.4). -/

namespace Sys2Proof.Machine

variable {s : State} {l : Fin 12} {peer : Nat}

/-! ### Leaving JOINING -/

theorem mayLeaveJoining_iff : s.mayLeaveJoining l = true ↔
    (s.line l).state = .joining ∧ (∃ moment, s.census = .ended moment) ∧
      ∀ i ∈ (s.line l).config.cells, (s.cell i).firstRest = false ∨ (s.cell i).state = .fault := by
  cases census : s.census <;> simp [State.mayLeaveJoining, census]

theorem endCensusWindow_of_window {since : Nat} (window : s.census = .window since) (run : s.timersRun = true) :
    s.endCensusWindow = allTwelve.foldl State.testJoining
      { s with clock := max s.clock (since + 200000), census := .ended (max s.clock (since + 200000)) } := by
  simp only [State.endCensusWindow, window, run, if_true, State.advanceTo, Config.censusWindow, Config.second, Nat.reduceMul]

theorem endJoining_of_joining {moment : Nat} (ended : s.census = .ended moment) (run : s.timersRun = true)
    (joining : (s.line l).state = .joining) :
    s.endJoining = allTwelve.foldl State.leaveIfJoining { s with clock := max s.clock (moment + 6000000) } := by
  have some : (s.linesWhere (fun a => a.state == .joining)).isEmpty = false := by
    rw [Bool.eq_false_iff, ne_eq, List.isEmpty_iff]
    exact List.ne_nil_of_mem (List.mem_filter.mpr ⟨mem_allTwelve l, by simpa using joining⟩)
  simp only [State.endJoining, ended, run, some, and_self, if_true, State.advanceTo, Config.joiningLimit, Config.second,
    Nat.reduceMul]

/-! ### Silent peers -/

theorem left_of_split {e : MapEntry} {before after : List MapEntry} (own : e.station = peer)
    (others : ∀ x ∈ before ++ after, x.station ≠ peer) :
    (before ++ e :: after).filter (fun e => e.station != peer) = before ++ after := by
  have stay : (before ++ after).filter (fun e => e.station != peer) = before ++ after :=
    List.filter_eq_self.mpr fun x hx => by simpa using others x hx
  rw [List.filter_append, List.filter_cons_of_neg (by simpa using own), ← List.filter_append, stay]

theorem dropped_map (a : ArticleLine) (number peer : Nat) :
    (a.dropped number peer).map = a.map.filter (fun e => e.station != peer) := by
  unfold ArticleLine.dropped
  dsimp only
  split
  next emptied => exact emptied.1.symm
  next => rfl

theorem dropped_split {a : ArticleLine} {e : MapEntry} {before after : List MapEntry} (number : Nat)
    (split : a.map = before ++ e :: after) (own : e.station = peer) (others : ∀ x ∈ before ++ after, x.station ≠ peer) :
    a.dropped number peer =
      if before ++ after = [] ∧ (a.state = .lead ∨ a.state = .follow) then
        { a with map := [], state := .solo, lead := number, leadSince := none, claimSince := none }
      else { a with map := before ++ after } := by
  rw [ArticleLine.dropped, split, left_of_split own others]

theorem reachStale_of_entry {e : MapEntry} (known : (s.line l).entry peer = some e) (run : s.timersRun = true)
    (fresh : e.stale = false) : s.reachStale l peer = (s.advanceTo (e.heardAt + 18000000)).markStale l peer := by
  unfold State.reachStale
  rw [known]
  exact if_pos ⟨run, fresh⟩

theorem reachRemoved_of_entry {e : MapEntry} (known : (s.line l).entry peer = some e) (run : s.timersRun = true)
    (stale : e.stale = true) : s.reachRemoved l peer = (s.advanceTo (e.heardAt + 60000000)).dropEntry l peer := by
  unfold State.reachRemoved
  rw [known]
  exact if_pos ⟨run, stale⟩

/-! ### Timers -/

/-- A lead timer that ends takes the lead, and leaves an entry of the lead stale (R82, R83; log entry 25). -/
theorem leadTimerEnd_eq {since : Nat} (runs : (s.line l).leadSince = some since) (run : s.timersRun = true) :
    s.leadTimerEnd l =
      (s.advanceTo (since + 18000000)).setLine l (((s.line l).staled (s.line l).lead).leadLost (max s.clock (since + 18000000))) := by
  have line : (s.advanceTo (since + 18000000)).line l = s.line l := rfl
  unfold State.leadTimerEnd
  rw [runs]
  dsimp only
  rw [if_pos run]
  split
  · rw [markStale_eq]
    exact congrArg _ (if_pos rfl)
  next unknown =>
    have others := entry_eq_none_iff.mp (Option.not_isSome_iff_eq_none.mp unknown)
    have same : (s.line l).staled (s.line l).lead = s.line l := by
      unfold ArticleLine.staled
      rw [updateEntry_of_other others]
    rw [same, loseLead_eq]
    rfl

theorem claimTimerEnd_eq {since : Nat} (runs : (s.line l).claimSince = some since) (run : s.timersRun = true) :
    s.claimTimerEnd l =
      if (s.line l).state = .follow ∧ (s.line l).lead = 0 then
        ((s.advanceTo (since + s.number * 25000)).setLine l { s.line l with claimSince := none }).request
          (.count (s.line l).config.code true none)
      else (s.advanceTo (since + s.number * 25000)).setLine l { s.line l with claimSince := none } := by
  unfold State.claimTimerEnd
  rw [runs]
  dsimp only
  rw [if_pos run, State.requestCount, line_setLine_same]
  rfl

theorem startHoldEnd_eq {since : Nat} (runs : (s.line l).holdSince = some since) (run : s.timersRun = true) :
    s.startHoldEnd l = ((s.advanceTo (since + 1000000)).setLine l { s.line l with holdSince := none }).evaluate l := by
  unfold State.startHoldEnd
  rw [runs]
  exact if_pos run

theorem reminderEnd_eq {since : Nat} (runs : (s.line l).alert.reminderSince = some since) (run : s.timersRun = true) :
    s.reminderEnd l =
      ((s.advanceTo (since + (s.line l).config.reminderMinutes * 6000000)).setLine l { s.line l with
        alert := { (s.line l).alert with
          reminderDue := true
          reminderSince := some (max s.clock (since + (s.line l).config.reminderMinutes * 6000000)) } }).evaluate l := by
  unfold State.reminderEnd
  rw [runs]
  exact if_pos run

theorem restockTimerEnd_eq {since : Nat} (runs : (s.line l).alert.restockSince = some since) (run : s.timersRun = true) :
    s.restockTimerEnd l =
      ((s.advanceTo (since + (s.line l).config.restockMinutes * 6000000)).setLine l { s.line l with alert := .blank }).evaluate l := by
  unfold State.restockTimerEnd
  rw [runs]
  exact if_pos run

theorem reachTallyPhase_eq (run : s.timersRun = true) :
    s.reachTallyPhase = allTwelve.foldl State.evaluate
      (State.requestTally { s with clock := max s.clock s.tallyAt, tallyAt := s.tallyAt + 6000000 }) := by
  simp only [State.reachTallyPhase, run, if_true, State.minuteEvaluations, State.advanceTo, Config.minute]

theorem reachTallyPhase_of_stopped (stopped : s.timersRun = false) : s.reachTallyPhase = s := if_neg (by simp [stopped])

theorem requestTally_of_reports (reports : ∃ l, (s.line l).reports = true) : s.requestTally = s.request .tally := by
  obtain ⟨l, reports⟩ := reports
  have some : (s.linesWhere ArticleLine.reports).isEmpty = false := by
    rw [Bool.eq_false_iff, ne_eq, List.isEmpty_iff]
    exact List.ne_nil_of_mem (List.mem_filter.mpr ⟨mem_allTwelve l, reports⟩)
  rw [State.requestTally, some]
  rfl

theorem requestTally_of_silent (silent : ∀ l, (s.line l).reports = false) : s.requestTally = s := by
  have none : s.linesWhere ArticleLine.reports = [] := List.filter_eq_nil_iff.mpr fun l _ => by simp [silent l]
  rw [State.requestTally, none]
  rfl

end Sys2Proof.Machine

open Sys2Proof Sys2Proof.Machine

/-- Settles O19, by the conditions of R80 and what leaving does. -/
theorem lineLeavesJoining : Obligations.LineLeavesJoining := by
  refine fun s => ⟨fun l => ?_, fun since window running => ?_, fun moment l ended running joining => ?_⟩
  · intro a left Ready
    have leaves : s.leaveJoining l = left := leaveJoining_eq s l
    have ready : s.mayLeaveJoining l = true ↔ Ready := mayLeaveJoining_iff
    refine ⟨fun h => ?_, fun h => ?_, fun joining => ?_, fun other => ?_⟩
    · rw [State.testJoining, if_pos (ready.mpr h), leaves]
    · rw [State.testJoining, if_neg (mt ready.mp h)]
    · rw [State.leaveIfJoining, if_pos joining, leaves]
    · rw [State.leaveIfJoining, if_neg other]
  · intro now
    exact congrArg (Host.Outcome.next ∘ State.finish) (endCensusWindow_of_window window (timersRun_iff.mpr running))
  · exact congrArg (Host.Outcome.next ∘ State.finish) (endJoining_of_joining ended (timersRun_iff.mpr running) joining)

/-- Settles O20, by the entry's place in the map. -/
theorem silentPeerGoesStaleAndLeavesTheMap : Obligations.SilentPeerGoesStaleAndLeavesTheMap := by
  intro s l peer e before after a running split own others
  have known : (s.line l).entry peer = some e := entry_split split own others
  have run := timersRun_iff.mpr running
  refine ⟨fun fresh => ?_, fun stale => ?_⟩
  · intro now map
    have staled : a.staled peer = { a with map := map } := by
      change { a with map := updateEntry a.map peer _ } = _
      rw [split, updateEntry_split own others]
    refine congrArg Host.Outcome.next ?_
    rw [reachStale_of_entry known run fresh, markStale_eq]
    change State.setLine _ l (if a.lead = peer then (a.staled peer).leadLost now else a.staled peer) = _
    rw [staled]
    rfl
  · intro now b t
    have dropped : a.dropped s.number peer = b := dropped_split s.number split own others
    refine congrArg (Host.Outcome.next ∘ State.finish) ?_
    have map : b.map = before ++ after := by
      rw [← dropped, dropped_map, split, left_of_split own others]
    have condition : (a.dropped s.number peer).leads = true ∧
        ((a.dropped s.number peer).aggregate ≠ a.aggregate ∨ (a.dropped s.number peer).map = [] ∧ a.alert.reminderDue = true) ↔
        (b.state = .lead ∨ b.state = .solo) ∧
          (b.aggregate ≠ a.aggregate ∨ (before ++ after = [] ∧ a.alert.reminderDue = true)) := by
      rw [dropped, leads_iff, map, or_comm (a := b.state = .solo)]
    rw [reachRemoved_of_entry known run stale, dropEntry_eq]
    refine (if_congr condition ?_ ?_)
    · exact congrArg (fun x => (State.setLine { s with clock := now } l x).evaluate l) dropped
    · exact congrArg (State.setLine { s with clock := now } l) dropped

/-- Settles O21: the TALLY request, then the evaluations. -/
theorem tallyPhaseAsksThenEvaluates : Obligations.TallyPhaseAsksThenEvaluates := by
  intro s t
  refine ⟨fun running => ?_, fun not_running not_brownout => ?_⟩
  · have phase : s.reachTallyPhase = allTwelve.foldl State.evaluate t.requestTally := reachTallyPhase_eq (timersRun_iff.mpr running)
    have line (l : Fin 12) : t.line l = s.line l := rfl
    refine ⟨fun ⟨l, state⟩ => ?_, fun silent => ?_⟩
    · refine congrArg (Host.Outcome.next ∘ State.finish) ?_
      rw [phase, requestTally_of_reports (s := t) ⟨l, reports_iff.mpr (line l ▸ state)⟩]
    · refine congrArg (Host.Outcome.next ∘ State.finish) ?_
      have none (l : Fin 12) : (t.line l).reports = false := by
        rw [← Bool.not_eq_true, reports_iff, line]
        obtain h | h := silent l <;> simp [h]
      rw [phase, requestTally_of_silent none]
  · have stopped : s.timersRun = false := by
      rw [← Bool.not_eq_true, timersRun_iff, not_or]
      exact ⟨not_running, not_brownout⟩
    exact congrArg (Host.Outcome.next ∘ State.finish) (reachTallyPhase_of_stopped stopped)

/-- Settles O29, timer by timer. -/
theorem lineTimersExpire : Obligations.LineTimersExpire := by
  refine ⟨fun s l since => ?_, fun s l since => ?_⟩
  · intro a running
    have run := timersRun_iff.mpr running
    refine ⟨fun runs => ?_, fun runs => ?_⟩
    · intro now
      refine congrArg Host.Outcome.next ((leadTimerEnd_eq runs run).trans ?_)
      simp only [ArticleLine.staled, ArticleLine.leadLost, updateEntry, beq_iff_eq]
      rfl
    · intro t
      refine ⟨fun follow lead => ?_, fun other => ?_⟩
      · exact congrArg (Host.Outcome.next ∘ State.finish) ((claimTimerEnd_eq runs run).trans (if_pos ⟨follow, lead⟩))
      · exact congrArg (Host.Outcome.next ∘ State.finish) ((claimTimerEnd_eq runs run).trans (if_neg (by tauto)))
  · intro a running
    have run := timersRun_iff.mpr running
    exact ⟨fun runs => congrArg (Host.Outcome.next ∘ State.finish) (startHoldEnd_eq runs run),
      fun runs => congrArg (Host.Outcome.next ∘ State.finish) (reminderEnd_eq runs run),
      fun runs => congrArg (Host.Outcome.next ∘ State.finish) (restockTimerEnd_eq runs run)⟩

end

section
/-! The evaluation of a line (5.4): the standing alert of the queue, and the request of the decision. -/

namespace Sys2Proof.Machine

variable {s : State} {l : Fin 12} {code : Code} {x : Standing}

/-- The first value found is the one that every hit gives. -/
theorem findSome?_of_unique {α β : Type} {g : α → Option β} {list : List α} {y : β} (hit : ∃ a ∈ list, g a = some y)
    (unique : ∀ z, (∃ a ∈ list, g a = some z) → z = y) : list.findSome? g = some y := by
  cases found : list.findSome? g with
  | none =>
    obtain ⟨a, mem, value⟩ := hit
    rw [List.findSome?_eq_none_iff.mp found a mem] at value
    cases value
  | some z =>
    obtain ⟨a, mem, value⟩ := List.exists_of_findSome?_eq_some found
    rw [unique z ⟨a, mem, value⟩]

/-- The hits among the WAITING frames. -/
theorem waiting_hit_iff : (∃ f ∈ s.queue.filter SendFrame.isWaiting, alertOf code f = some x) ↔
    ∃ f ∈ s.queue, f.phase = .waiting ∧ alertOf code f = some x := by
  simp [SendFrame.isWaiting_iff, and_assoc]

/-- The WAITING ALERT of the article stands (R91). -/
theorem queuedAlert_of_waiting (waits : ∃ f ∈ s.queue, f.phase = .waiting ∧ alertOf code f = some x)
    (unique : ∀ y, (∃ f ∈ s.queue, f.phase = .waiting ∧ alertOf code f = some y) → y = x) : s.queuedAlert code = some x := by
  have found := findSome?_of_unique (waiting_hit_iff.mpr waits) fun z hit => unique z (waiting_hit_iff.mp hit)
  rw [State.queuedAlert, found]

/-- Without a WAITING one, what the whole queue holds stands. -/
theorem queuedAlert_of_none_waiting (none : ∀ y, ¬ ∃ f ∈ s.queue, f.phase = .waiting ∧ alertOf code f = some y) :
    s.queuedAlert code = s.queue.findSome? (alertOf code) := by
  have silent : (s.queue.filter SendFrame.isWaiting).findSome? (alertOf code) = .none := by
    cases found : (s.queue.filter SendFrame.isWaiting).findSome? (alertOf code) with
    | none => rfl
    | some y => exact absurd (waiting_hit_iff.mp (List.exists_of_findSome?_eq_some found)) (none y)
  rw [State.queuedAlert, silent]

theorem queuedAlert_of_sending (none : ∀ y, ¬ ∃ f ∈ s.queue, f.phase = .waiting ∧ alertOf code f = some y)
    (sends : ∃ f ∈ s.queue, f.phase ≠ .waiting ∧ alertOf code f = some x)
    (unique : ∀ y, (∃ f ∈ s.queue, f.phase ≠ .waiting ∧ alertOf code f = some y) → y = x) : s.queuedAlert code = some x := by
  rw [queuedAlert_of_none_waiting none]
  obtain ⟨f, mem, -, value⟩ := sends
  exact findSome?_of_unique ⟨f, mem, value⟩ fun z ⟨g, held, hit⟩ =>
    unique z ⟨g, held, fun waits => none z ⟨g, held, waits, hit⟩, hit⟩

theorem queuedAlert_of_none (none : ∀ y, (¬ ∃ f ∈ s.queue, f.phase = .waiting ∧ alertOf code f = some y) ∧
    ¬ ∃ f ∈ s.queue, f.phase ≠ .waiting ∧ alertOf code f = some y) : s.queuedAlert code = .none := by
  rw [queuedAlert_of_none_waiting fun y => (none y).1, List.findSome?_eq_none_iff]
  intro f mem
  cases value : alertOf code f with
  | none => rfl
  | some y =>
    by_cases waits : f.phase = .waiting
    · exact absurd ⟨f, mem, waits, value⟩ (none y).1
    · exact absurd ⟨f, mem, waits, value⟩ (none y).2

theorem evaluates_iff {a : ArticleLine} : a.evaluates = true ↔
    (a.state = .lead ∨ a.state = .solo) ∧ a.holdSince = none ∧ a.alert.state ≠ .restocking := by
  simp [ArticleLine.evaluates, leads_iff, or_comm, and_assoc]

theorem evaluate_of_idle (idle : ¬ (s.line l).evaluates = true) : s.evaluate l = s := if_neg idle

/-- A line that is evaluated asks for its decision from the standing alert. -/
theorem evaluate_of_evaluates (evaluates : (s.line l).evaluates = true) :
    s.evaluate l =
      ((decision ((s.queuedAlert (s.line l).config.code).getD (s.line l).alert.standing)
          (s.queuedAlert (s.line l).config.code).isNone (s.line l).alert.reminderDue (s.line l).aggregate
          (s.line l).config.reorder (s.line l).config.margin).map
        fun d => s.request (.alert (s.line l).config.code (d.state == .raised) d.urgency (s.line l).config.reorder)).getD s := by
  rw [State.evaluate, if_pos evaluates]
  change (match s.decisionOf l with | none => s | some d => s.requestAlert l (d.state == .raised) d.urgency) =
    ((s.decisionOf l).map _).getD s
  cases s.decisionOf l <;> rfl

end Sys2Proof.Machine

open Sys2Proof Sys2Proof.Machine

/-- Settles O25, by where the standing alert comes from; an evaluation asks for a frame at most. -/
theorem evaluationAsksForItsDecision : Obligations.EvaluationAsksForItsDecision := by
  intro s l a Waiting Sending amount Evaluates Outcome
  refine ⟨fun idle => evaluate_of_idle (mt evaluates_iff.mp idle), fun evaluates => ?_, fun k => ?_⟩
  · have asks (st : Standing) (own : Bool) (standing : (s.queuedAlert a.config.code).getD a.alert.standing = st)
        (none : (s.queuedAlert a.config.code).isNone = own) : Outcome st own := by
      have asked := evaluate_of_evaluates (evaluates_iff.mpr evaluates)
      rw [standing, none] at asked
      change s.evaluate l = _
      rw [asked]
      change ((decision st own a.alert.reminderDue amount a.config.reorder a.config.margin).map _).getD s = _
      cases decision st own a.alert.reminderDue amount a.config.reorder a.config.margin <;> rfl
    refine ⟨fun x waits unique => ?_, fun x none sends unique => ?_, fun none => ?_⟩
    · have queued := queuedAlert_of_waiting waits unique
      exact asks x false (by rw [queued]; rfl) (by rw [queued]; rfl)
    · have queued := queuedAlert_of_sending none sends unique
      exact asks x false (by rw [queued]; rfl) (by rw [queued]; rfl)
    · have queued := queuedAlert_of_none none
      exact asks _ true (by rw [queued]; rfl) (by rw [queued]; rfl)
  · rw [(evaluate_sendSide s l).lines k]
    exact ⟨rfl, rfl, rfl, rfl, rfl⟩

end
section
/-! What an attempt forms (7.2): the line that alone holds a code, and the fields of each kind. -/

namespace Sys2Proof.Machine

variable {s : State} {l : Fin 12} {code : Code}

/-- The line that alone holds a code is the one found (R128). -/
theorem lineOf_of_unique (used : (s.line l).state ≠ .vacant) (held : (s.line l).config.code = code)
    (alone : ∀ k, (s.line k).state ≠ .vacant → (s.line k).config.code = code → k = l) : s.lineOf code = some l := by
  cases found : s.lineOf code with
  | none =>
    have := List.find?_eq_none.mp found l (mem_allTwelve l)
    simp [used, held] at this
  | some k =>
    obtain ⟨state, code⟩ := lineOf_some found
    rw [alone k state code]

theorem lineOf_eq_none_iff : s.lineOf code = none ↔ ∀ l, (s.line l).state = .vacant ∨ (s.line l).config.code ≠ code := by
  simp [State.lineOf, imp_iff_not_or]

/-- The parts of a TALLY entry's flag byte: alert state in bits 0 and 1, urgency in bits 2 and 3, lead flag in bit 4 (Table 11-3). -/
theorem flagByte_parts (x : AlertState) (k : Fin 4) (leads : Bool) :
    let e : TallyEntry := ⟨0, 0, BitVec.ofNat 8 (x.value + 4 * k.val + if leads then 16 else 0)⟩
    tallyAlertState e = x ∧ tallyUrgency e = k.val ∧ tallyLeadFlag e = leads ∧ e.flags.toNat < 32 := by
  revert k leads
  cases x <;> decide

theorem entryFlags_parts (a : ArticleLine) (range : a.alert.urgency ≤ 3) :
    tallyAlertState (tallyEntryOf a) = a.alert.state ∧ tallyUrgency (tallyEntryOf a) = a.alert.urgency ∧
      tallyLeadFlag (tallyEntryOf a) = a.leads ∧ (tallyEntryOf a).flags.toNat < 32 :=
  flagByte_parts a.alert.state ⟨a.alert.urgency, Nat.lt_succ_of_le range⟩ a.leads

end Sys2Proof.Machine

open Sys2Proof Sys2Proof.Machine

/-- Settles O33, kind by kind. -/
theorem formedFrameHoldsTheStationAsItStands : Obligations.FormedFrameHoldsTheStationAsItStands := by
  refine fun s serial => ⟨fun code l used held alone => ?_, ?_, fun _ _ _ => rfl, fun _ => rfl, fun _ _ => rfl, fun _ => rfl,
    fun _ => rfl, fun _ _ => rfl⟩
  · have found := lineOf_of_unique used held alone
    refine ⟨fun claim part => ?_, fun raised urgency reorder => ?_⟩
    · simp only [State.formBody, found, Option.map_some, Option.getD_some]
    · simp only [State.formBody, found, Option.map_some, Option.getD_some]
      rfl
  · have reporting : s.linesWhere ArticleLine.reports = allTwelve.filter (fun l =>
        (s.line l).state == .solo || (s.line l).state == .lead || (s.line l).state == .follow) :=
      List.filter_congr fun l _ => by rw [Bool.eq_iff_iff, reports_iff]; simp [or_assoc]
    refine ⟨_, rfl, ?_, fun e mem => ?_⟩
    · rw [reporting, List.map_map]
      rfl
    · obtain ⟨l, reports, rfl⟩ := List.mem_map.mp mem
      have state := reports_iff.mp (List.mem_filter.mp reports).2
      refine ⟨l, state, rfl, rfl, fun range => ?_⟩
      obtain ⟨alert, urgency, lead, small⟩ := entryFlags_parts (s.line l) range
      exact ⟨alert, urgency, by rw [lead, leads_iff], small⟩

end

section
/-! The full queue (7.4): the highest class that waits, the frame evicted, and what is told of a loss. -/

namespace Sys2Proof.Machine

variable {s : State} {c : Content} {f : SendFrame} {before after queue : List SendFrame} {h : Nat}

/-- The largest of a start value and the values of a list lies within a bound where all of them do. -/
theorem foldl_max_le_iff {α : Type} (g : α → Nat) (list : List α) (start : Nat) :
    list.foldl (fun m a => max m (g a)) start ≤ h ↔ start ≤ h ∧ ∀ a ∈ list, g a ≤ h := by
  induction list generalizing start with
  | nil => simp
  | cons a rest ih => simp [ih, and_assoc]

theorem highestWaiting_le_iff :
    highestWaiting queue ≤ h ↔ ∀ g ∈ queue, g.phase = .waiting → contentClass g.content ≤ h := by
  simp [highestWaiting, foldl_max_le_iff (fun f : SendFrame => contentClass f.content), SendFrame.isWaiting_iff]

theorem class_le_highestWaiting (mem : f ∈ queue) (waits : f.phase = .waiting) :
    contentClass f.content ≤ highestWaiting queue :=
  highestWaiting_le_iff.mp le_rfl f mem waits

theorem highestWaiting_eq (some : ∃ g ∈ queue, g.phase = .waiting ∧ contentClass g.content = h)
    (all : ∀ g ∈ queue, g.phase = .waiting → contentClass g.content ≤ h) : highestWaiting queue = h := by
  obtain ⟨g, mem, waits, rfl⟩ := some
  exact le_antisymm (highestWaiting_le_iff.mpr all) (class_le_highestWaiting mem waits)

/-- A class number above 0 that is the highest is that of a frame that waits. -/
theorem exists_of_highestWaiting_pos (pos : 0 < highestWaiting queue) :
    ∃ g ∈ queue, g.phase = .waiting ∧ contentClass g.content = highestWaiting queue := by
  by_contra none
  have below : highestWaiting queue ≤ highestWaiting queue - 1 := highestWaiting_le_iff.mpr fun g mem waits => by
    have le := class_le_highestWaiting mem waits
    have ne : contentClass g.content ≠ highestWaiting queue := fun same => none ⟨g, mem, waits, same⟩
    omega
  omega

theorem contentClass_le (c : Content) : contentClass c ≤ 2 := by cases c <;> simp [contentClass]

/-- The youngest WAITING frame of the highest class is evicted (R134). -/
theorem victim_of_split (highest : highestWaiting queue = h) (lower : contentClass c < h) (split : queue = before ++ f :: after)
    (waits : f.phase = .waiting) (kind : contentClass f.content = h)
    (younger : ∀ g ∈ after, g.phase = .waiting → contentClass g.content < h) : victim queue c = some f := by
  have none : after.reverse.find? (fun g => g.isWaiting && contentClass g.content == h) = none := by
    rw [List.find?_eq_none]
    intro g mem hit
    rw [List.mem_reverse] at mem
    simp only [Bool.and_eq_true, SendFrame.isWaiting_iff, beq_iff_eq] at hit
    exact (younger g mem hit.1).ne hit.2
  have hit : (f.isWaiting && contentClass f.content == h) = true := by simp [SendFrame.isWaiting_iff.mpr waits, kind]
  unfold victim
  rw [highest, if_pos lower, split, List.reverse_append, List.reverse_cons, List.append_assoc, List.find?_append, none,
    List.find?_append, List.find?_cons, hit]
  rfl

theorem victim_eq_none (lower : highestWaiting queue ≤ contentClass c) : victim queue c = none := if_neg (not_lt.mpr lower)

/-- A lower class number finds a frame to evict. -/
theorem victim_isSome (lower : contentClass c < highestWaiting queue) : ∃ f, victim queue c = some f := by
  obtain ⟨g, mem, waits, kind⟩ := exists_of_highestWaiting_pos (Nat.zero_lt_of_lt lower)
  unfold victim
  rw [if_pos lower]
  refine Option.isSome_iff_exists.mp (List.find?_isSome.mpr ⟨g, List.mem_reverse.mpr mem, ?_⟩)
  simp [SendFrame.isWaiting_iff.mpr waits, kind]

theorem joinQueue_of_victim (full : s.queue.length = 4) (found : victim s.queue c = some f) :
    s.joinQueue c = (((s.leaveQueue f.age).enqueue c).countSendDrop).tellLost f.content := by
  have no_room : ¬ s.queue.length < Config.sendSlots := by simp [full, Config.sendSlots]
  rw [State.joinQueue, if_neg no_room, found]

theorem joinQueue_of_refused (full : s.queue.length = 4) (none : victim s.queue c = none) :
    s.joinQueue c = s.countSendDrop.tellLost c := by
  have no_room : ¬ s.queue.length < Config.sendSlots := by simp [full, Config.sendSlots]
  rw [State.joinQueue, if_neg no_room, none]

theorem countSendDrop_eq (s : State) :
    s.countSendDrop = { s with counters := { s.counters with sendDrops := min 65535 (s.counters.sendDrops + 1) } } := by
  rw [State.countSendDrop, bump_eq]

end Sys2Proof.Machine

open Sys2Proof Sys2Proof.Machine

/-- Settles O38, by the frame that a request evicts. -/
theorem fullQueueEvictsOrRefuses : Obligations.FullQueueEvictsOrRefuses := by
  intro s c h Told Dropped New bounded
  have told (t : State) (lost : Content) : t.tellLost lost = Told t lost := by cases lost <;> rfl
  refine ⟨joinQueue_of_room, fun full some all => ⟨fun before f after lower split waits kind younger => ?_, fun higher => ?_⟩,
    fun full low => ?_, fun urgent ⟨g, mem, waits, other⟩ => ?_⟩
  · have found := victim_of_split (highestWaiting_eq some all) lower split waits kind younger
    rw [joinQueue_of_victim full found, told, leaveQueue_of_split bounded split, countSendDrop_eq]
    rfl
  · rw [joinQueue_of_refused full (victim_eq_none ((highestWaiting_eq some all).trans_le higher)), told, countSendDrop_eq]
  · have none : victim s.queue c = none := victim_eq_none (low ▸ highestWaiting_le_iff.mpr fun g _ _ => contentClass_le g.content)
    rw [joinQueue_of_refused full none, tellLost_queue]
    rfl
  · obtain room | full := Nat.lt_or_eq_of_le bounded.1
    · rw [joinQueue_of_room room]
      exact List.mem_append_right _ (List.mem_singleton_self _)
    · have lower : contentClass c < highestWaiting s.queue := by
        have := class_le_highestWaiting mem waits
        omega
      obtain ⟨f, found⟩ := victim_isSome lower
      rw [joinQueue_of_victim full found, tellLost_queue]
      exact List.mem_append_right _ (List.mem_singleton_self _)

end
section
/-! An attempt's end (6.4, 6.5): failure with and without a younger frame of its kind, drop, loss told, and success here. -/

namespace Sys2Proof.Machine

variable {s t : State} {c : Instr} {code : Code} {l : Fin 12} {f g : SendFrame} {before between after rest : List SendFrame}

/-! ### The 1 bits at a frame's end -/

/-- The leading 1 bits of a list that a 0 ends. -/
theorem takeWhile_ones (bits : List Bool) :
    let n := ((bits ++ [false]).takeWhile id).length
    n ≤ bits.length ∧ (∀ i < n, bits[i]? = some true) ∧ (n < bits.length → bits[n]? = some false) := by
  induction bits with
  | nil => simp
  | cons b rest ih =>
    cases b with
    | false => simp
    | true =>
      obtain ⟨length, ones, zero⟩ := ih
      refine ⟨by simpa using length, fun i below => ?_, fun below => ?_⟩
      · cases i with
        | zero => rfl
        | succ i => simpa using ones i (by simpa using below)
      · simpa using zero (by simpa using below)

/-- The bits of a character behind its start bit, from its stop bit's side. -/
theorem onesAtStop_eq (b : Byte) :
    onesAtStop b = ((((List.range 8).map fun i => b.getLsbD (7 - i)) ++ [false]).takeWhile id).length := rfl

theorem onesAtStop_spec (b : Byte) :
    onesAtStop b ≤ 8 ∧ (∀ i < onesAtStop b, b.getLsbD (7 - i) = true) ∧
      (onesAtStop b < 8 → b.getLsbD (7 - onesAtStop b) = false) := by
  obtain ⟨length, ones, zero⟩ := takeWhile_ones ((List.range 8).map fun i => b.getLsbD (7 - i))
  rw [← onesAtStop_eq] at length ones zero
  simp only [List.length_map, List.length_range] at length zero
  refine ⟨length, fun i below => ?_, fun below => ?_⟩
  · have bit := ones i below
    rw [List.getElem?_map, List.getElem?_range (by omega)] at bit
    exact Option.some.inj bit
  · have bit := zero below
    rw [List.getElem?_map, List.getElem?_range below] at bit
    exact Option.some.inj bit

/-- The last character of a frame is the low byte of its check (Table 11-1). -/
theorem frameCharacters_getLast? (frame : Frame) :
    (frameCharacters frame).getLast? = some ((crc16 (coveredBytes frame)).extractLsb' 0 8) := by
  rw [frameCharacters, frameAfterSync, bytes16, List.getLast?_append, List.getLast?_append]
  rfl

/-! ### A failed attempt -/

theorem isWaiting_eq_false (sends : f.phase ≠ .waiting) : f.isWaiting = false := by simpa using mt SendFrame.isWaiting_iff.mp sends

section
variable (bounded : s.QueueBounded) (split : s.queue = before ++ f :: after) (sends : f.phase ≠ .waiting)
include bounded split sends

/-- The frame waits again at its place where no other frame is of its kind (R115). -/
theorem returnToWaiting_of_alone (age : g.age = f.age) (kind : g.content = f.content)
    (alone : ∀ h ∈ before ++ after, sameKind h.content f.content = false) :
    s.returnToWaiting g = { s with queue := before ++ { g with phase := .waiting } :: after } := by
  have none : s.queue.find? (fun h => h.isWaiting && sameKind h.content g.content) = none := by
    rw [List.find?_eq_none, split, kind]
    intro h mem hit
    obtain mem | rfl | mem := by simpa using mem
    · simp [alone h (List.mem_append_left _ mem)] at hit
    · simp [isWaiting_eq_false sends] at hit
    · simp [alone h (List.mem_append_right _ mem)] at hit
  rw [State.returnToWaiting, none]
  exact replaceFrame_of_split bounded split age

/-- The one younger frame of its kind leaves the queue, and its contents go into the frame that waits again (R115). -/
theorem returnToWaiting_of_younger {h : SendFrame} (later : after = between ++ g :: rest) (age : h.age = f.age)
    (content : h.content = f.content) (kind : sameKind g.content f.content = true)
    (alone : ∀ x ∈ before ++ between ++ rest, sameKind x.content f.content = false) :
    s.returnToWaiting h = { s with
      queue := before ++ { h with phase := .waiting, content := mergeContent f.content g.content } :: (between ++ rest) } := by
  have waits : g.phase = .waiting := waiting_of_split bounded split sends g (by simp [later])
  have whole : s.queue = (before ++ f :: between) ++ g :: rest := by simp [split, later]
  have found : s.queue.find? (fun x => x.isWaiting && sameKind x.content h.content) = some g := by
    have older : (before ++ f :: between).find? (fun x => x.isWaiting && sameKind x.content h.content) = none := by
      rw [List.find?_eq_none, content]
      intro x mem hit
      obtain mem | rfl | mem := by simpa using mem
      · simp [alone x (by simp [mem])] at hit
      · simp [isWaiting_eq_false sends] at hit
      · simp [alone x (by simp [mem])] at hit
    have hit : (g.isWaiting && sameKind g.content h.content) = true := by
      simp [SendFrame.isWaiting_iff.mpr waits, content, kind]
    rw [whole, List.find?_append, older, List.find?_cons, hit]
    rfl
  have left : s.leaveQueue g.age = { s with queue := before ++ f :: (between ++ rest) } := by
    rw [leaveQueue_of_split bounded whole]
    simp
  have kept : ({ s with queue := before ++ f :: (between ++ rest) } : State).QueueBounded :=
    left ▸ (leaveQueue_keeps (s := s) g.age).queue bounded
  rw [State.returnToWaiting, found]
  dsimp only
  rw [left, content]
  exact replaceFrame_of_split kept rfl age

/-- Below the sixteenth failure the frame waits again (R115). -/
theorem failAttempt_of_alone (attempts : f.attempts < 15)
    (alone : ∀ h ∈ before ++ after, sameKind h.content f.content = false) :
    s.failAttempt f = { s with queue := before ++ { f with phase := .waiting, attempts := f.attempts + 1 } :: after } := by
  have again : ¬ Config.attemptLimit ≤ f.attempts + 1 := by rw [Config.attemptLimit]; omega
  refine (if_neg again).trans ?_
  exact returnToWaiting_of_alone (g := { f with attempts := f.attempts + 1 }) bounded split sends rfl rfl alone

theorem failAttempt_of_younger (attempts : f.attempts < 15) (later : after = between ++ g :: rest)
    (kind : sameKind g.content f.content = true) (alone : ∀ x ∈ before ++ between ++ rest, sameKind x.content f.content = false) :
    s.failAttempt f = { s with
      queue := before ++ { f with
        phase := .waiting, attempts := f.attempts + 1, content := mergeContent f.content g.content } :: (between ++ rest) } := by
  have again : ¬ Config.attemptLimit ≤ f.attempts + 1 := by rw [Config.attemptLimit]; omega
  refine (if_neg again).trans ?_
  exact returnToWaiting_of_younger (h := { f with attempts := f.attempts + 1 }) bounded split sends later rfl rfl kind alone

omit sends in
/-- At the sixteenth failure the frame is dropped, counted and told (R117). -/
theorem failAttempt_of_last (attempts : f.attempts = 15) :
    s.failAttempt f = State.tellLost { s with
      queue := before ++ after
      counters := { s.counters with sendFailures := min 65535 (s.counters.sendFailures + 1) } } f.content := by
  have last : Config.attemptLimit ≤ f.attempts + 1 := by rw [Config.attemptLimit]; omega
  refine (if_pos last).trans ?_
  rw [leaveQueue_of_split bounded split, State.countSendFailure, bump_eq]

end

theorem collide_of_waiting (waits : ∀ f ∈ s.queue, f.phase = .waiting) : s.collide = s := by
  rw [State.collide, sendingFrame_eq_none waits]

theorem countCollision_eq (s : State) :
    s.countCollision = { s with counters := { s.counters with collisions := min 65535 (s.counters.collisions + 1) } } := by
  rw [State.countCollision, bump_eq]

theorem collide_of_split (bounded : s.QueueBounded) (split : s.queue = before ++ f :: after) (sends : f.phase ≠ .waiting)
    (on : s.station = .running ∨ s.station = .unconfigured) :
    s.collide = State.failAttempt
      { s with counters := { s.counters with collisions := min 65535 (s.counters.collisions + 1) } } f := by
  rw [State.collide, sendingFrame_of_split bounded split sends, ← countCollision_eq]
  exact if_pos (lineOn_iff.mpr on)

/-! ### A lost COUNT -/

theorem countInQueue_eq_false_iff :
    s.countInQueue code = false ↔ ∀ f ∈ s.queue, ∀ claim part, f.content ≠ .count code claim part := by
  have kind (d : Content) : sameKind d (.count code false none) = true ↔ ∃ claim part, d = .count code claim part := by
    cases d <;> simp [sameKind]
  rw [State.countInQueue, List.any_eq_false]
  refine forall₂_congr fun f _ => ?_
  rw [kind]
  simp

/-- The line that alone holds the code starts its claim timer, or stays (R74). -/
theorem countLost_of_line (found : s.lineOf code = some l) :
    s.countLost code =
      if (s.line l).state = .follow ∧ (s.line l).lead = 0 ∧ s.countInQueue code = false ∧ (s.line l).claimSince = none then
        s.startClaim l else s := by
  rw [State.countLost, found]

theorem countLost_of_no_line (none : s.lineOf code = none) : s.countLost code = s := by
  rw [State.countLost, none]

/-! ### The row of a frame -/

theorem value_of_commandOf {b : Byte} {x : CommandCode} (h : commandOf b = some x) : x.value = b := by
  unfold commandOf at h
  split_ifs at h with h1 h2 h3 h4 h5 h6 h7 <;> obtain rfl := Option.some.inj h <;> simp_all [CommandCode.value]

/-- The row of a frame stands for that frame. -/
theorem frameOf_frameRow (f : Frame) : frameOf (frameRow f) = some f := by
  obtain ⟨source, body⟩ := f
  cases body with
  | command b =>
    unfold frameRow
    dsimp only
    split
    next h => simp [frameOf, commandFrame, value_of_commandOf h]
    next h => simp [frameOf, commandFrame, value_of_commandOf h]
    next h => simp [frameOf, commandFrame, value_of_commandOf h]
    next h => simp [frameOf, commandFrame, value_of_commandOf h]
    next h => simp [frameOf, commandFrame, value_of_commandOf h]
    next h => simp [frameOf, commandFrame, value_of_commandOf h]
    next h => simp [frameOf, commandFrame, value_of_commandOf h]
    next => rfl
  | _ => rfl

theorem completeFrame_of_assembly {frame : Frame} (assembles : s.inAssembly = some t) (admitted : lengthAdmitted frame.body = true)
    (short : bodyLength frame.body ≤ 80) : s.completeFrame frame = t.awaitIdle.takeFrame frame := by
  have fits : ¬ Config.bodyMax < bodyLength frame.body := not_lt.mpr short
  rw [State.completeFrame, if_neg fits, if_pos admitted, assembles]

theorem inAssembly_of_assembling (on : s.station = .running ∨ s.station = .unconfigured)
    (assembling : s.access.assembly = .assembling) : s.inAssembly = some s := by
  rw [State.inAssembly, if_pos (lineOn_iff.mpr on), assembling]

end Sys2Proof.Machine

open Sys2Proof Sys2Proof.Machine

/-- Settles O35: the failed attempt, the COUNT that is lost, the last character's 1 bits, and the frame taken here. -/
theorem attemptEndsInCollisionOrSuccess : Obligations.AttemptEndsInCollisionOrSuccess := by
  refine ⟨fun s => ⟨fun waits => ?_, fun before f after on bounded split sends => ?_⟩, fun s code => ⟨fun l used held alone => ?_, fun none => ?_⟩,
    fun frame c last => ?_, fun s => ⟨fun waits => ?_, fun before f after frame on bounded split phase admitted short => ?_⟩⟩
  · exact congrArg (Host.Outcome.next ∘ State.finish) (collide_of_waiting waits)
  · intro u f1
    have collides : exec .collision s = .next (u.failAttempt f).finish :=
      congrArg (Host.Outcome.next ∘ State.finish) (collide_of_split bounded split sends on)
    refine ⟨fun attempts alone => ?_, fun between g rest attempts later kind alone => ?_, fun attempts => ?_⟩
    · rw [collides, failAttempt_of_alone (s := u) bounded split sends attempts alone]
    · rw [collides, failAttempt_of_younger (s := u) bounded split sends attempts later kind alone]
    · intro d
      rw [collides, failAttempt_of_last (s := u) bounded split attempts]
      cases f.content <;> rfl
  · intro Starts
    have lost := countLost_of_line (lineOf_of_unique used held alone)
    refine ⟨fun ⟨follow, lead, stopped, gone⟩ => ?_, fun stays => ?_⟩
    · rw [lost, if_pos ⟨follow, lead, countInQueue_eq_false_iff.mpr gone, stopped⟩]
      rfl
    · rw [lost, if_neg fun ⟨follow, lead, gone, stopped⟩ => stays ⟨follow, lead, stopped, countInQueue_eq_false_iff.mp gone⟩]
  · exact countLost_of_no_line (lineOf_eq_none_iff.mpr none)
  · obtain rfl := Option.some.inj ((frameCharacters_getLast? frame).symm.trans last)
    exact onesAtStop_spec _
  · exact congrArg (Host.Outcome.next ∘ State.finish) (succeed_of_waiting waits)
  · refine ⟨_, congrArg (Host.Outcome.next ∘ State.finish) (succeed_of_split bounded split phase on), ?_⟩
    rw [exec_of_frameOf (frameOf_frameRow frame),
      completeFrame_of_assembly (inAssembly_of_assembling (s := { s with
        queue := before ++ after
        lineLow := 0
        access := { s.access with assembly := .assembling, quiet := onesAtEnd frame } }) on rfl) admitted short]
    rfl

end

section
/-! The supply monitor's samples (10.7): BROWNOUT with its cut frame, the return, and the load that they abandon and begin. -/

namespace Sys2Proof.Machine

variable {s t : State} {f : SendFrame} {before after : List SendFrame} {low : Bool}

/-- The second low sample in a row. -/
theorem lowSecond_iff {p : Supply} : (p.after low).lowRun = 2 ∧ p.lowRun < 2 ↔ low = true ∧ p.lowRun = 1 := by
  cases low <;> simp [Supply.after]
  omega

/-- The second good sample in a row. -/
theorem goodSecond_iff {p : Supply} : (p.after low).goodRun = 2 ∧ p.goodRun < 2 ↔ low = false ∧ p.goodRun = 1 := by
  cases low <;> simp [Supply.after]
  omega

theorem sampleSupply_of_running (running : s.station = .running) :
    s.sampleSupply low =
      if low = true ∧ s.supply.lowRun = 1 then ({ s with supply := s.supply.after low } : State).enterBrownout
      else { s with supply := s.supply.after low } := by
  simp only [State.sampleSupply, running, lowSecond_iff, decide_eq_true_eq]

theorem sampleSupply_of_brownout (brownout : s.station = .brownout) :
    s.sampleSupply low =
      if low = false ∧ s.supply.goodRun = 1 then ({ s with supply := s.supply.after low } : State).leaveBrownout
      else { s with supply := s.supply.after low } := by
  simp only [State.sampleSupply, brownout, goodSecond_iff, decide_eq_true_eq]

theorem sampleSupply_of_loading (loading : s.station = .loading) :
    s.sampleSupply low =
      if low = true ∧ s.supply.lowRun = 1 then
        { s with supply := s.supply.after low, loader := { s.loader with abandoned := true } }
      else if (low = false ∧ s.supply.goodRun = 1) ∧ s.loader.abandoned = true then
        { s with supply := s.supply.after low, loader := .start }
      else { s with supply := s.supply.after low } := by
  simp only [State.sampleSupply, loading, lowSecond_iff, goodSecond_iff, decide_eq_true_eq]

/-- Entry to BROWNOUT with what the cut of a frame being sent leaves (R165). -/
theorem enterBrownout_of_cut (cut : s.cutFrame = t) :
    s.enterBrownout = { t with
      station := .brownout
      access := ⟨false, 0, t.access.lastSender, .waitIdle, none⟩
      key := { t.key with press := none }
      supply := { t.supply with lowRun := 0 } } := by
  rw [← cut]
  rfl

theorem cutFrame_of_waiting (waits : ∀ f ∈ s.queue, f.phase = .waiting) : s.cutFrame = s := by
  rw [State.cutFrame, sendingFrame_eq_none waits]

/-- A cut frame counts as bad where it is in assembly here, and its attempt fails (R110, R120; log entry 31). -/
theorem cutFrame_of_split (bounded : s.QueueBounded) (split : s.queue = before ++ f :: after) (sends : f.phase ≠ .waiting) :
    s.cutFrame = State.failAttempt { s with counters := { s.counters with
      badFrames := if s.access.assembly = .assembling then min 65535 (s.counters.badFrames + 1) else s.counters.badFrames } } f := by
  rw [State.cutFrame, sendingFrame_of_split bounded split sends]
  dsimp only
  split
  · rw [State.countBad, bump_eq]
  · rfl

/-- The supply monitor plays no part in the loss of a COUNT. -/
theorem countLost_supply (s : State) (p : Supply) (code : Code) :
    ({ s with supply := p } : State).countLost code = { s.countLost code with supply := p } := by
  cases found : s.lineOf code with
  | none =>
    rw [countLost_of_no_line found, countLost_of_no_line (s := { s with supply := p }) found]
  | some l =>
    rw [countLost_of_line found, countLost_of_line (s := { s with supply := p }) found]
    by_cases starts : (s.line l).state = .follow ∧ (s.line l).lead = 0 ∧ s.countInQueue code = false ∧ (s.line l).claimSince = none
    · rw [if_pos starts]
      exact if_pos starts
    · rw [if_neg starts]
      exact if_neg starts

theorem countLost_access (s : State) (code : Code) : (s.countLost code).access = s.access := (countLost_sendSide s code).access
theorem countLost_key (s : State) (code : Code) : (s.countLost code).key = s.key := (countLost_sendSide s code).key

end Sys2Proof.Machine

open Sys2Proof Sys2Proof.Machine

/-- Settles O51, by the station state and the run that the sample ends. -/
theorem supplySamplesDecide : Obligations.SupplySamplesDecide := by
  have finish (s : State) (low : Bool) {t : State} (h : s.sampleSupply low = t) : exec (.supplySample low) s = .next t.finish :=
    congrArg (Host.Outcome.next ∘ State.finish) h
  refine ⟨fun s running => ⟨?_, fun other => ?_, fun run => ?_⟩, fun s low => ?_⟩
  · exact finish _ _ ((sampleSupply_of_running running).trans (if_neg (by simp)))
  · exact finish _ _ ((sampleSupply_of_running running).trans (if_neg (by simp [other])))
  · intro Dark
    have second : s.sampleSupply true = ({ s with supply := ⟨2, 0⟩ } : State).enterBrownout := by
      rw [sampleSupply_of_running running, if_pos ⟨rfl, run⟩, Supply.after, run]
      rfl
    refine ⟨fun waits => ?_, ?_⟩
    · exact finish _ _ (second.trans (enterBrownout_of_cut (cutFrame_of_waiting (s := { s with supply := ⟨2, 0⟩ }) waits)))
    · intro u before f after bounded split sends
      have cut : ({ s with supply := ⟨2, 0⟩ } : State).cutFrame = State.failAttempt { u with supply := ⟨2, 0⟩ } f :=
        cutFrame_of_split (s := { s with supply := ⟨2, 0⟩ }) bounded split sends
      refine ⟨fun attempts alone => ?_, fun between g rest attempts later kind alone => ?_, fun attempts => ?_⟩
      · rw [failAttempt_of_alone (s := { u with supply := ⟨2, 0⟩ }) bounded split sends attempts alone] at cut
        exact finish _ _ (second.trans (enterBrownout_of_cut cut))
      · rw [failAttempt_of_younger (s := { u with supply := ⟨2, 0⟩ }) bounded split sends attempts later kind alone] at cut
        exact finish _ _ (second.trans (enterBrownout_of_cut cut))
      · intro d
        rw [failAttempt_of_last (s := { u with supply := ⟨2, 0⟩ }) bounded split attempts] at cut
        cases content : f.content with
        | count code claim part =>
          rw [content] at cut
          have entered := enterBrownout_of_cut (cut.trans (countLost_supply d ⟨2, 0⟩ code))
          simp only [countLost_access, countLost_key] at entered
          exact finish _ _ (second.trans entered)
        | _ =>
          rw [content] at cut
          exact finish _ _ (second.trans (enterBrownout_of_cut cut))
  · intro runs
    refine ⟨fun station => ?_, fun station => ?_, fun station => ⟨fun other => ?_, fun good run => ?_⟩,
      fun station => ⟨fun second run => ?_, fun good run abandoned => ?_, fun no_low no_good => ?_⟩⟩
    · exact finish _ _ (by rw [State.sampleSupply, station]; rfl)
    · exact finish _ _ (by rw [State.sampleSupply, station])
    · exact finish _ _ ((sampleSupply_of_brownout station).trans (if_neg (by
        rintro ⟨rfl, run⟩
        simp [run] at other)))
    · refine finish _ _ ((sampleSupply_of_brownout station).trans ((if_pos ⟨good, run⟩).trans ?_))
      rw [State.leaveBrownout, Supply.after, good]
      rfl
    · exact finish _ _ ((sampleSupply_of_loading station).trans (if_pos ⟨second, run⟩))
    · exact finish _ _ ((sampleSupply_of_loading station).trans ((if_neg (by simp [good])).trans (if_pos ⟨⟨good, run⟩, abandoned⟩)))
    · refine finish _ _ ((sampleSupply_of_loading station).trans ((if_neg fun ⟨second, run⟩ => no_low second run).trans (if_neg ?_)))
      rintro ⟨⟨good, run⟩, abandoned⟩
      obtain other | kept := no_good good
      · exact other run
      · simp [kept] at abandoned

end

section
/-! The rows of the line (chapter 6): carrier, idle and rounds, broken frames, and the contention slot that begins an attempt. -/

namespace Sys2Proof.Machine

variable {s t : State} {f : SendFrame} {before after : List SendFrame} {slot elapsed : Nat}

theorem isSending_iff : s.isSending = true ↔ ∃ f ∈ s.queue, f.phase ≠ .waiting := by
  rw [← Bool.not_eq_false, isSending_eq_false]
  simp

theorem hearCarrier_eq (s : State) (glitch : Bool) : s.hearCarrier glitch = { s with access := { s.access with
    idle := false
    quiet := 0
    assembly := if s.access.idle then (if glitch then .waitIdle else .assembling) else s.access.assembly
    round := if ∃ f ∈ s.queue, f.phase ≠ .waiting then s.access.round else none } } := by
  simp only [State.hearCarrier, isSending_iff]

theorem becomeIdle_of_busy (on : s.station = .running ∨ s.station = .unconfigured) (busy : s.access.idle = false)
    (waits : ∀ f ∈ s.queue, f.phase = .waiting) :
    s.becomeIdle =
      let t := if s.access.assembly = .assembling then s.badFrame else s
      { t with lineLow := 0, access := { t.access with idle := true, quiet := 20, assembly := .ready, round := some ⟨0, 0⟩ } } :=
  if_pos ⟨lineOn_iff.mpr on, busy, (isSending_eq_false s).mpr waits⟩

/-- Behind the last slot of a round none is left to begin. -/
@[simp] theorem slotsSilent_self (s : State) (slot : Nat) : s.slotsSilent slot slot = true := by simp [State.slotsSilent]

theorem repeatRound_of_ended (on : s.station = .running ∨ s.station = .unconfigured) (idle : s.access.idle = true)
    (round : s.access.round = some ⟨96, elapsed⟩) :
    s.repeatRound = { s with access := { s.access with round := some ⟨0, 0⟩ } } := by
  rw [State.repeatRound, round]
  exact if_pos ⟨lineOn_iff.mpr on, idle, slotsSilent_self s 96⟩

theorem repeatRound_of_off (off : s.lineOn = false) : s.repeatRound = s := by
  unfold State.repeatRound
  split
  · rfl
  · simp [off]

/-! ### Broken frames -/

theorem badFrame_awaitIdle (t : State) : t.badFrame.awaitIdle = { t with
    counters := { t.counters with badFrames := min 65535 (t.counters.badFrames + 1) }
    access := { t.access with lastSender := 0, assembly := .waitIdle } } := by
  rw [State.badFrame, State.countBad, bump_eq]
  rfl

theorem abandonFrame_of_assembly (assembles : s.inAssembly = some t) : s.abandonFrame = t.badFrame.awaitIdle := by
  rw [State.abandonFrame, assembles]

theorem abandonFrame_of_none (gone : s.inAssembly = none) : s.abandonFrame = s := by
  rw [State.abandonFrame, gone]

theorem discardOverLength_of_assembly (assembles : s.inAssembly = some t) : s.discardOverLength = { t with
    counters := { t.counters with overLength := min 65535 (t.counters.overLength + 1) }
    access := { t.access with lastSender := 0, assembly := .waitIdle } } := by
  rw [State.discardOverLength, assembles]
  dsimp only
  rw [State.countOverLength, bump_eq]
  rfl

theorem discardOverLength_of_none (gone : s.inAssembly = none) : s.discardOverLength = s := by
  rw [State.discardOverLength, gone]

theorem completeFrame_of_none (frame : Frame) (gone : s.inAssembly = none) : s.completeFrame frame = s := by
  rw [State.completeFrame, discardOverLength_of_none gone, abandonFrame_of_none gone, gone]
  simp

theorem completeCharacters_of_none (characters : List Byte) (gone : s.inAssembly = none) : s.completeCharacters characters = s := by
  unfold State.completeCharacters
  rw [discardOverLength_of_none gone, abandonFrame_of_none gone]
  split
  · rfl
  · split
    · exact completeFrame_of_none _ gone
    · rfl

/-- A header's body length is its second character. -/
theorem isOverLength_header (kind length source : Byte) (rest : List Byte) :
    isOverLength (kind :: length :: source :: rest) = decide (80 < length.toNat) := rfl

/-- A row without a whole header is neither over-length nor a good frame (log entry 7). -/
theorem row_without_header {characters : List Byte} (short : characters.length < 3) :
    isOverLength characters = false ∧ goodFrame characters = none := by
  match characters, short with
  | [], _ => exact ⟨rfl, rfl⟩
  | [_], _ => exact ⟨rfl, rfl⟩
  | [_, _], _ => exact ⟨rfl, rfl⟩

theorem completeCharacters_of_broken {characters : List Byte} (short : isOverLength characters = false)
    (broken : goodFrame characters = none) : s.completeCharacters characters = s.abandonFrame := by
  rw [State.completeCharacters, short, broken]
  rfl

theorem completeCharacters_of_overLength {characters : List Byte} (long : isOverLength characters = true) :
    s.completeCharacters characters = s.discardOverLength := if_pos long

/-! ### Contention slots -/

/-- The class and the station state let a waiting frame be sent in the class's slot (R113, R119). -/
theorem slotFrame_eq_none (h : slot % 32 ≠ s.offset ∨ ∀ g ∈ s.queue, contentClass g.content ≠ slot / 32 ∨
    (s.station = .unconfigured ∧ ∀ code cell, g.content ≠ .fault code cell)) : s.slotFrame slot = none := by
  obtain other | none_of_class := h
  · exact if_neg fun own => other own.2.2
  · unfold State.slotFrame
    split
    · refine List.find?_eq_none.mpr fun g mem => ?_
      obtain other | ⟨station, no_fault⟩ := none_of_class g mem
      · simp [other]
      · have : s.maySend g.content = false := by
          cases content : g.content with
          | fault code cell => exact absurd content (no_fault code cell)
          | _ => simp [State.maySend, station]
        simp [this]
    · rfl

theorem maySend_iff {c : Content} : s.maySend c = true ↔
    s.station = .running ∨ (s.station = .unconfigured ∧ ∃ fault cell, c = .fault fault cell) := by
  cases station : s.station <;> cases c <;> simp [State.maySend, station]

/-- The oldest waiting frame of the class is the one that is sent. -/
theorem slotFrame_of_split (idle : s.access.idle = true) (waits : ∀ g ∈ s.queue, g.phase = .waiting)
    (own : slot % 32 = s.offset) (split : s.queue = before ++ f :: after) (ofClass : contentClass f.content = slot / 32)
    (oldest : ∀ g ∈ before, contentClass g.content ≠ slot / 32) (may : s.maySend f.content = true) : s.slotFrame slot = some f := by
  have waiting : f.isWaiting = true := SendFrame.isWaiting_iff.mpr (waits f (by simp [split]))
  rw [State.slotFrame, if_pos ⟨idle, (isSending_eq_false s).mpr waits, own⟩, split, List.find?_append,
    List.find?_eq_none.mpr (fun g mem => by simp [oldest g mem])]
  simp [waiting, ofClass, may]

theorem beginSlot_of_next (on : s.station = .running ∨ s.station = .unconfigured) (round : s.access.round = some ⟨slot, elapsed⟩)
    (inRound : slot < 96) {sent : Option SendFrame} (chosen : s.slotFrame slot = sent) :
    s.beginSlot slot =
      let t : State := { s with access := { s.access with round := some ⟨slot + 1, max elapsed (slot * 20)⟩ } }
      (sent.map t.beginAttempt).getD t := by
  rw [State.beginSlot, round]
  refine (if_pos ⟨lineOn_iff.mpr on, le_rfl, inRound, slotsSilent_self s slot⟩).trans ?_
  rw [chosen]
  cases sent <;> rfl

/-- The frame formed for an attempt depends on the lines alone. -/
theorem formBody_access (s : State) (a : LineAccess) (content : Content) (serial : Byte) :
    ({ s with access := a } : State).formBody content serial = s.formBody content serial := by
  cases content <;> rfl

/-- The serial that a frame keeps from its attempts (R67). -/
def keptSerial (f : SendFrame) (serial : Byte) : Option Byte :=
  match f.content with
  | .count .. => some serial
  | _ => f.serial

/-- What an attempt leaves, once its frame's serial is known. -/
theorem beginAttempt_of_serial {serial : Byte} {a : LineAccess} {number : Nat} (bounded : t.QueueBounded)
    (split : t.queue = before ++ f :: after) (own : t.number = number)
    (taken : ({ s with access := a } : State).takeSerial f = ({ t with access := a }, serial)) :
    ({ s with access := a } : State).beginAttempt f = { t with
      queue := before ++ { f with
        phase := .sending ⟨BitVec.ofNat 8 number, t.formBody f.content serial⟩
        serial := keptSerial f serial } :: after
      lineLow := 1
      access := { a with idle := false, quiet := 0, assembly := .assembling } } := by
  subst own
  have replaced := replaceFrame_of_split (s := { t with access := a })
    (g := { f with
      phase := .sending ⟨BitVec.ofNat 8 t.number, t.formBody f.content serial⟩, serial := keptSerial f serial })
    bounded split rfl
  unfold State.beginAttempt
  rw [taken]
  simp only [formBody_access]
  exact congrArg (fun u : State => { u with
    lineLow := 1, access := { u.access with idle := false, quiet := 0, assembly := .assembling } }) replaced

theorem takeSerial_of_line {code : Code} {claim : Bool} {part : Option DeparturePart} {l : Fin 12}
    (content : f.content = .count code claim part) (first : f.serial = none) (found : s.lineOf code = some l) :
    s.takeSerial f = (s.setLine l { s.line l with serial := (s.line l).serial + 1 }, (s.line l).serial + 1) := by
  rw [State.takeSerial, first, content]
  dsimp only
  rw [found]

theorem takeSerial_of_held {serial : Byte} (held : f.serial = some serial) : s.takeSerial f = (s, serial) := by
  rw [State.takeSerial, held]

theorem takeSerial_of_other (other : ∀ code claim part, f.content ≠ .count code claim part) (none : f.serial = none) :
    s.takeSerial f = (s, 0) := by
  rw [State.takeSerial, none]
  cases content : f.content with
  | count code claim part => exact absurd content (other code claim part)
  | _ => rfl

theorem offset_eq (s : State) : (s.offset : Int) = ((s.number : Int) - s.access.lastSender - 1) % 32 :=
  Int.toNat_of_nonneg (Int.emod_nonneg _ (by decide))

end Sys2Proof.Machine

open Sys2Proof Sys2Proof.Machine

/-- Settles O30: the carrier, and the rows of a quiet line where their event can occur. -/
theorem carrierIdleAndRounds : Obligations.CarrierIdleAndRounds := by
  intro s
  refine ⟨fun on => ⟨fun low => ?_, fun busy waits => ?_, fun elapsed idle round => ?_⟩, fun not_running not_unconfigured => ?_⟩
  · have carried : exec (.carrier low) s = .next (({ s with lineLow := low } : State).hearCarrier (low == 0)) :=
      congrArg Host.Outcome.next (if_pos (lineOn_iff.mpr on))
    rw [carried, hearCarrier_eq]
    simp only [beq_iff_eq]
  · have idle : exec .lineIdle s = _ := congrArg Host.Outcome.next (becomeIdle_of_busy on busy waits)
    refine ⟨fun clear => ?_, fun assembling => ?_⟩
    · rw [idle, if_neg clear]
    · rw [idle, if_pos assembling, State.badFrame, State.countBad, bump_eq]
      rfl
  · exact congrArg Host.Outcome.next (repeatRound_of_ended on idle round)
  · have off := lineOn_eq_false_iff.mpr ⟨not_running, not_unconfigured⟩
    have deaf : ¬ s.lineOn = true := by simp [off]
    exact ⟨fun low => congrArg Host.Outcome.next (if_neg deaf), congrArg Host.Outcome.next (if_neg fun h => deaf h.1),
      congrArg Host.Outcome.next (repeatRound_of_off off)⟩

/-- Settles O31, by whether a frame is in assembly and what its header says. -/
theorem brokenFramesAreAbandonedOrDiscarded : Obligations.BrokenFramesAreAbandonedOrDiscarded := by
  intro s Bad Discarded On
  refine ⟨fun t assembles => ?_, fun gone => ⟨?_, fun c => ?_, fun characters => ?_, fun length => ?_⟩,
    fun on assembling => inAssembly_of_assembling on assembling, fun on ready idle => ?_, fun on waitIdle => ?_, fun off => ?_⟩
  · have bad : s.abandonFrame = Bad t := (abandonFrame_of_assembly assembles).trans (badFrame_awaitIdle t)
    have discarded : s.discardOverLength = Discarded t := discardOverLength_of_assembly assembles
    refine ⟨congrArg Host.Outcome.next bad, fun c other => ?_, fun characters short => ?_,
      fun kind length source rest => ⟨fun fits broken => ?_, fun long => ⟨?_, ?_⟩⟩⟩
    · exact congrArg Host.Outcome.next ((if_neg other).trans bad)
    · obtain ⟨short, broken⟩ := row_without_header short
      exact congrArg (Host.Outcome.next ∘ State.finish) ((completeCharacters_of_broken short broken).trans bad)
    · have short := (isOverLength_header kind length source rest).trans (decide_eq_false (not_lt.mpr fits))
      exact congrArg (Host.Outcome.next ∘ State.finish) ((completeCharacters_of_broken short broken).trans bad)
    · have long := (isOverLength_header kind length source rest).trans (decide_eq_true long)
      exact congrArg (Host.Outcome.next ∘ State.finish) ((completeCharacters_of_overLength long).trans discarded)
    · exact congrArg Host.Outcome.next ((if_pos long).trans discarded)
  · exact congrArg Host.Outcome.next (abandonFrame_of_none gone)
  · exact congrArg Host.Outcome.next ((if_congr Iff.rfl rfl (abandonFrame_of_none gone)).trans (ite_self s))
  · exact congrArg (Host.Outcome.next ∘ State.finish) (completeCharacters_of_none characters gone)
  · exact congrArg Host.Outcome.next ((if_congr Iff.rfl (discardOverLength_of_none gone) rfl).trans (ite_self s))
  · rw [State.inAssembly, if_pos (lineOn_iff.mpr on), ready, hearCarrier_eq]
    simp [idle]
  · rw [State.inAssembly, if_pos (lineOn_iff.mpr on), waitIdle]
  · exact if_neg fun on => off (lineOn_iff.mp on)

/-- Settles O32: the slot's frame, and the attempt by the serial that the frame takes. -/
theorem contentionSlotBeginsAnAttempt : Obligations.ContentionSlotBeginsAnAttempt := by
  refine ⟨offset_eq, fun c => by cases c <;> rfl, fun s slot elapsed => ?_⟩
  intro r on idle waits round inRound
  refine ⟨fun other => ?_, ?_⟩
  · exact congrArg Host.Outcome.next (beginSlot_of_next on round inRound (slotFrame_eq_none other))
  · intro before f after bounded own split ofClass oldest may Sent
    have allowed : s.maySend f.content = true := maySend_iff.mpr (by
      obtain running | fault := may
      · exact .inl running
      · exact on.imp_right fun station => ⟨station, fault⟩)
    have chosen := slotFrame_of_split idle waits own split ofClass oldest allowed
    have attempted {u : State} {serial : Byte} (bounded : u.QueueBounded) (split : u.queue = before ++ f :: after)
        (number : u.number = s.number)
        (taken : ({ s with access := { s.access with round := some r } } : State).takeSerial f =
          ({ u with access := { s.access with round := some r } }, serial)) : Sent u serial (keptSerial f serial) := by
      have sent := beginAttempt_of_serial bounded split number taken
      exact congrArg Host.Outcome.next ((beginSlot_of_next on round inRound chosen).trans sent)
    refine ⟨fun code claim part l _ content first used held alone => ?_, fun code claim part n _ content serial => ?_,
      fun other none => ?_⟩
    · have found := lineOf_of_unique used held alone
      have sent := attempted (u := s.setLine l { s.line l with serial := (s.line l).serial + 1 }) bounded split rfl
        (takeSerial_of_line content first found)
      rwa [keptSerial, content] at sent
    · have sent := attempted bounded split rfl (takeSerial_of_held serial)
      rwa [keptSerial, content] at sent
    · have sent := attempted bounded split rfl (takeSerial_of_other other none)
      rw [keptSerial] at sent
      split at sent
      next content => exact absurd content (other _ _ _)
      next => rwa [none] at sent

end

section
/-! Reception: what a row of a good frame does once the frame is heard, and the test of its codes (7.3); COUNTs, STRAYs, ALERTs and
frames that reach no line (3.4, 3.8, 4.6, 5.3). -/

namespace Sys2Proof.Machine

variable {s t : State} {l : Fin 12} {code : Code} {source : Nat} {c : Instr}

/-! ### A frame that is heard -/

theorem bodyLength_le_of_admitted {b : Body} (admitted : lengthAdmitted b = true) : bodyLength b ≤ 80 := by
  cases b with
  | command b =>
    cases payload : b.payload with
    | codes list =>
      simp only [lengthAdmitted, payload, decide_eq_true_eq] at admitted
      simp only [bodyLength, payload]
      omega
    | cell number => simp [bodyLength, payload]
  | count b =>
    simp only [bodyLength]
    split <;> simp
  | tally entries =>
    simp only [lengthAdmitted, decide_eq_true_eq] at admitted
    simp only [bodyLength]
    omega
  | census codes =>
    simp only [lengthAdmitted, Bool.and_eq_true, decide_eq_true_eq] at admitted
    simp only [bodyLength]
    omega
  | alert _ | stray _ | status _ | fault _ => simp [bodyLength]

theorem awaitIdle_takeFrame (t : State) (f : Frame) :
    t.awaitIdle.takeFrame f = (t.heard f.source).act (sourceStation f.source) f.body := by
  rw [State.takeFrame, State.countTaken, bump_eq]
  rfl

/-- A row of a good frame hands its contents to the blocks behind the counters (R109, R111, R127). -/
theorem exec_of_frame {f : Frame} (row : frameOf c = some f) (assembles : s.inAssembly = some t)
    (admitted : lengthAdmitted f.body = true) :
    exec c s = .next ((t.heard f.source).act (sourceStation f.source) f.body).finish := by
  rw [exec_of_frameOf row, completeFrame_of_assembly assembles admitted (bodyLength_le_of_admitted admitted), awaitIdle_takeFrame]

/-- A source of a station number is that station (R171). -/
theorem sourceStation_of_le {source : Byte} {n : Nat} (own : source.toNat = n) (range : n ≤ 31) : sourceStation source = n := by
  rw [sourceStation, own, if_pos range]

/-! ### The test of a code -/

/-- No line that is not VACANT holds the code, or its bit is clear (R128). -/
def State.Unreached (s : State) (code : Code) : Prop :=
  s.hashTable.getLsbD (hashIndex code) = false ∨ ∀ l, (s.line l).state ≠ .vacant → (s.line l).config.code ≠ code

theorem filterCode_of_reaches (h : s.Reaches code l) : s.filterCode code = (s, some l) := by
  obtain ⟨bit, used, held, alone⟩ := h
  rw [State.filterCode, if_pos bit, lineOf_of_unique used held alone]

theorem filterCode_fst (s : State) (code : Code) : (s.filterCode code).1 = s.codeTested code := by
  unfold State.filterCode State.codeTested
  by_cases bit : s.hashTable.getLsbD (hashIndex code) = true
  · cases found : s.lineOf code with
    | none => simp [bit, State.countUnknown, bump_eq]
    | some l => simp [bit]
  · simp [bit, State.countFiltered, bump_eq]

theorem filterCode_of_unreached (h : s.Unreached code) : s.filterCode code = (s.codeTested code, none) := by
  refine Prod.ext (filterCode_fst s code) ?_
  unfold State.filterCode
  obtain clear | noLine := h
  · simp [clear]
  · rw [lineOf_eq_none_iff.mpr fun l => Classical.or_iff_not_imp_left.mpr (noLine l)]
    split <;> rfl

/-- A tested code raises counters alone. -/
theorem codeTested_eq (s : State) (code : Code) : s.codeTested code = { s with counters := (s.codeTested code).counters } := by
  unfold State.codeTested
  split
  · rfl
  · split <;> rfl

/-! ### COUNT -/

theorem isNeighbour_iff : s.isNeighbour source = true ↔ source ∈ s.neighbours ∧ source ≠ s.number := by
  simp [State.isNeighbour]

theorem takePart_eq (s : State) (source : Nat) (b : CountBody) : s.takePart source b.code b.part = s.partTaken source b := by
  unfold State.takePart State.partTaken
  cases b.part with
  | none => rfl
  | some p =>
    have zero : p.units.toNat = 0 ↔ p.units = 0 := by simp [← BitVec.toNat_inj]
    simp only [isNeighbour_iff, and_assoc, ne_eq, zero]

/-- A departure part joins the log alone. -/
theorem partTaken_eq (s : State) (source : Nat) (b : CountBody) :
    s.partTaken source b = { s with log := (s.partTaken source b).log } := by
  unfold State.partTaken
  cases b.part with
  | none => rfl
  | some p =>
    dsimp only
    split <;> rfl

theorem partTaken_reaches {b : CountBody} (h : s.Reaches code l) : (s.partTaken source b).Reaches code l := by
  rw [partTaken_eq]
  exact h

theorem partTaken_unreached {b : CountBody} (h : s.Unreached code) : (s.partTaken source b).Unreached code := by
  rw [partTaken_eq]
  exact h

/-- The station's own COUNT carries no part of a neighbour (R45). -/
theorem partTaken_of_own (b : CountBody) (own : source = s.number) : s.partTaken source b = s := by
  unfold State.partTaken
  cases b.part with
  | none => rfl
  | some p => exact if_neg (by simp [own])

theorem takeCount_of_reaches {b : CountBody} (h : s.Reaches b.code l) :
    s.takeCount source b = (s.partTaken source b).lineCount l source (min b.count.toNat 39996) b.serial := by
  simp only [State.takeCount, takePart_eq, filterCode_of_reaches (partTaken_reaches h)]
  rfl

theorem takeCount_of_unreached {b : CountBody} (h : s.Unreached b.code) :
    s.takeCount source b = (s.partTaken source b).codeTested b.code := by
  simp only [State.takeCount, takePart_eq, filterCode_of_unreached (partTaken_unreached h)]

/-- A COUNT of 0 or 31 leaves the line that it reaches (R70). -/
theorem takeCount_of_stranger {b : CountBody} (other : source ≠ s.number) (stranger : isPeer s.number source = false) :
    s.takeCount source b = (s.partTaken source b).codeTested b.code := by
  have number : (s.partTaken source b).number = s.number := by rw [partTaken_eq]
  simp only [State.takeCount, takePart_eq]
  rw [← filterCode_fst]
  obtain ⟨l, -, h⟩ | h | h := filterCode_cases (s.partTaken source b) b.code
  · simp only [h, State.lineCount, number, if_neg other, stranger, Bool.false_eq_true, if_false]
  · simp only [h]
  · simp only [h]

/-! ### STRAY -/

theorem strayNames_iff {b : StrayBody} {e : Departure} : strayNames b e = true ↔
    (1 ≤ b.origin.toNat ∧ b.origin.toNat ≤ 30) ∧ e.origin = b.origin.toNat ∧ e.serial = b.serial := by
  simp [strayNames, and_assoc]

/-- One unit of the youngest entry that passes a test is consumed (R50). -/
theorem consumeUnit_of_youngest {p : Departure → Bool} {older younger : List Departure} {d : Departure}
    (split : s.log = older ++ d :: younger) (passes : p d = true) (youngest : ∀ e ∈ younger, p e = false) :
    s.consumeUnit p =
      { s with log := older ++ (if d.units ≤ 1 then [] else [{ d with units := d.units - 1 }]) ++ younger } := by
  have reversed : s.log.reverse = younger.reverse ++ d :: older.reverse := by simp [split]
  rw [State.consumeUnit, reversed, takeUnit_first _ _ _ _ (fun e mem => youngest e (List.mem_reverse.mp mem)) passes]
  split <;> simp

theorem consumeUnit_of_none {p : Departure → Bool} (fails : ∀ e ∈ s.log, p e = false) : s.consumeUnit p = s := by
  rw [State.consumeUnit, takeUnit_none _ _ (fun e mem => fails e (List.mem_reverse.mp mem)), List.reverse_reverse]

theorem takeStray_eq (s : State) (source : Nat) (b : StrayBody) :
    s.takeStray source b =
      if b.event = 0 ∧ source ∈ s.neighbours ∧ source ≠ s.number then (s.codeTested b.code).consumeUnit (strayNames b)
      else s.codeTested b.code := by
  have neighbour : (s.codeTested b.code).isNeighbour source = s.isNeighbour source := by rw [codeTested_eq]; rfl
  simp only [State.takeStray, filterCode_fst, neighbour, isNeighbour_iff]

/-! ### ALERT -/

theorem takeAlert_of_reaches {b : AlertBody} (h : s.Reaches b.code l) :
    s.takeAlert source b = if 1 ≤ source ∧ source ≤ 30 then s.alertFrame l b.state.toNat b.urgency.toNat else s := by
  simp only [State.takeAlert, filterCode_of_reaches h]

theorem takeAlert_of_unreached {b : AlertBody} (h : s.Unreached b.code) : s.takeAlert source b = s.codeTested b.code := by
  simp only [State.takeAlert, filterCode_of_unreached h]

theorem alertStateOf_eq_raised {v : Nat} : alertStateOf v = some .raised ↔ v = 1 := by
  unfold alertStateOf
  split <;> simp_all

theorem alertStateOf_eq_clear {v : Nat} : alertStateOf v = some .clear ↔ v = 0 := by
  unfold alertStateOf
  split <;> simp_all

/-! ### The lead's COUNT -/

theorem ownCountTaken_of_reports (reports : (s.line l).state = .solo ∨ (s.line l).state = .lead ∨ (s.line l).state = .follow) :
    s.ownCountTaken l = (s.setLine l { s.line l with
      state := if (s.line l).map.isEmpty then .solo else .lead
      lead := s.number
      leadSince := none
      claimSince := none }).evaluate l := if_pos (reports_iff.mpr reports)

theorem ownCountTaken_of_joining (joining : (s.line l).state = .joining) : s.ownCountTaken l = s :=
  if_neg (by simp [reports_iff, joining])

theorem countEntry_config (a : ArticleLine) (peer count : Nat) (serial : Byte) (now : Nat) :
    (a.countEntry peer count serial now).config = a.config := by
  unfold ArticleLine.countEntry
  split
  · rfl
  · split <;> rfl

theorem peerCountTaken_of_reports {peer count : Nat} {serial : Byte}
    (reports : (s.line l).state = .solo ∨ (s.line l).state = .lead ∨ (s.line l).state = .follow) :
    s.peerCountTaken l peer count serial =
      (s.setLine l { (s.line l).countEntry peer count serial s.clock with
        state := .follow, lead := peer, leadSince := some s.clock, claimSince := none }).withdraw
          (fun c => isAlertOf (s.line l).config.code c || isClaimOf (s.line l).config.code c) := by
  unfold State.peerCountTaken
  simp only [countEntry_config]
  obtain h | h | h := reports <;> rw [h]

theorem peerCountTaken_of_joining {peer count : Nat} {serial : Byte} (joining : (s.line l).state = .joining) :
    s.peerCountTaken l peer count serial =
      s.setLine l { (s.line l).countEntry peer count serial s.clock with lead := peer, leadSince := some s.clock } := by
  rw [State.peerCountTaken, joining]

end Sys2Proof.Machine

open Sys2Proof Sys2Proof.Machine

/-- Settles O14: the oldest entry at its moment, and the entry that a STRAY names. -/
theorem entriesLeaveTheLog : Obligations.EntriesLeaveTheLog := by
  refine ⟨fun s => ⟨fun e rest log runs => ?_, fun still => ?_⟩, fun s t source b => ?_⟩
  · have expired : s.expireOldest = { s.advanceTo (s.expiryOf e) with log := rest } := by
      rw [State.expireOldest, log]
      exact if_pos (timersRun_iff.mpr runs)
    exact congrArg Host.Outcome.next expired
  · have kept : s.expireOldest = s := by
      obtain empty | ⟨not_running, not_brownout⟩ := still
      · rw [State.expireOldest, empty]
      · unfold State.expireOldest
        split
        · rfl
        · exact if_neg fun runs => (timersRun_iff.mp runs).elim not_running not_brownout
    exact congrArg Host.Outcome.next kept
  · intro n u Named assembles
    have taken : exec (.strayTaken source b) s = .next ((t.heard source).takeStray n b).finish := exec_of_frame (f := ⟨source, .stray b⟩) rfl assembles rfl
    have log : u.log = t.log := by
      change ((t.heard source).codeTested b.code).log = t.log
      rw [codeTested_eq]
      rfl
    rw [taken, takeStray_eq]
    refine ⟨fun older younger d placed neighbour other least most split named youngest => ?_, fun h => ?_⟩
    · rw [if_pos ⟨placed, neighbour, other⟩, consumeUnit_of_youngest (log.trans split) (strayNames_iff.mpr ⟨⟨least, most⟩, named⟩)
        (fun e mem => by simpa using fun names => youngest e mem (strayNames_iff.mp names).2)]
    · split
      next acts =>
        obtain ⟨placed, neighbour, other⟩ := acts
        rw [consumeUnit_of_none]
        intro e mem
        rw [log] at mem
        rw [Bool.eq_false_iff]
        intro names
        obtain ⟨⟨least, most⟩, named⟩ := strayNames_iff.mp names
        obtain h | h | h | h | h | h := h
        · exact h placed
        · exact h neighbour
        · exact other h
        · omega
        · omega
        · exact h e mem named
      next => rfl

/-- Settles O22: this station's own COUNT, and a peer's, by the state of the line. -/
theorem countTakenMovesTheLead : Obligations.CountTakenMovesTheLead := by
  refine ⟨fun s t source b l => ?_, fun s t source b l => ?_⟩
  · intro a assembles own least most reaches
    have number : sourceStation source = t.number := sourceStation_of_le own (by omega)
    have taken : exec (.countTaken source b) s = .next ((t.heard source).takeCount t.number b).finish :=
      number ▸ exec_of_frame (f := ⟨source, .count b⟩) rfl assembles rfl
    have line : (t.heard source).takeCount t.number b = (t.heard source).ownCountTaken l := by
      rw [takeCount_of_reaches (s := t.heard source) reaches, partTaken_of_own (s := t.heard source) (source := t.number) b rfl]
      exact if_pos rfl
    rw [taken, line]
    refine ⟨fun reports => ?_, fun joining => ?_⟩
    · rw [ownCountTaken_of_reports (s := t.heard source) reports]
      rfl
    · rw [ownCountTaken_of_joining (s := t.heard source) joining]
  · intro p u a assembles least most other reaches
    have number : sourceStation source = p := sourceStation_of_le rfl (by omega)
    have taken : exec (.countTaken source b) s = .next ((t.heard source).takeCount p b).finish :=
      number ▸ exec_of_frame (f := ⟨source, .count b⟩) rfl assembles rfl
    have parted := partTaken_eq (t.heard source) p b
    have line : (t.heard source).takeCount p b = u.peerCountTaken l p (min b.count.toNat 39996) b.serial := by
      have own : u.number = t.number := by
        change ((t.heard source).partTaken p b).number = _
        rw [parted]
        rfl
      rw [takeCount_of_reaches (s := t.heard source) reaches, State.lineCount, if_neg (own ▸ other),
        if_pos (isPeer_iff.mpr ⟨least, most, own ▸ other⟩)]
    have same : u.line l = t.line l ∧ u.clock = t.clock ∧ u.queue = t.queue := by
      change ((t.heard source).partTaken p b).line l = _ ∧ ((t.heard source).partTaken p b).clock = _ ∧
        ((t.heard source).partTaken p b).queue = _
      rw [parted]
      exact ⟨rfl, rfl, rfl⟩
    obtain ⟨sameLine, sameClock, sameQueue⟩ := same
    rw [taken, line]
    refine ⟨fun joining => ?_, fun reports => ?_⟩
    · rw [peerCountTaken_of_joining (sameLine ▸ joining), sameLine, sameClock]
    · have code : (t.line l).config.code = b.code := reaches.2.2.1
      rw [peerCountTaken_of_reports (sameLine ▸ reports), sameLine, sameClock, code, ← sameQueue]
      rfl

/-- Settles O23: frames whose code reaches no line, and frames that no block takes. -/
theorem framesThatReachNoLineAreCounted : Obligations.FramesThatReachNoLineAreCounted := by
  refine ⟨fun s t source b => ?_, fun s t source b assembles unreached => ?_, fun s t source b f assembles => ⟨?_, ?_⟩⟩
  · intro n u assembles h
    have taken : exec (.countTaken source b) s = .next ((t.heard source).takeCount n b).finish := exec_of_frame (f := ⟨source, .count b⟩) rfl assembles rfl
    rw [taken]
    obtain ⟨stranger, other⟩ | unreached := h
    · rw [takeCount_of_stranger (s := t.heard source) other (by rw [← Bool.not_eq_true, isPeer_iff]; omega)]
    · rw [takeCount_of_unreached (s := t.heard source) unreached]
  · have taken : exec (.alertTaken source b) s = .next ((t.heard source).takeAlert (sourceStation source) b).finish :=
      exec_of_frame (f := ⟨source, .alert b⟩) rfl assembles rfl
    rw [taken, takeAlert_of_unreached (s := t.heard source) unreached]
  · exact exec_of_frame (f := ⟨source, .status b⟩) rfl assembles rfl
  · exact exec_of_frame (f := ⟨source, .fault f⟩) rfl assembles rfl

/-- Settles O26, by R89's table. -/
theorem alertTakenSetsTheRecord : Obligations.AlertTakenSetsTheRecord := by
  intro s t source b l r k u Becomes Stays assembles reaches lawful
  have taken : exec (.alertTaken source b) s = .next (u.takeAlert (sourceStation source) b).finish := exec_of_frame (f := ⟨source, .alert b⟩) rfl assembles rfl
  rw [takeAlert_of_reaches (s := u) reaches] at taken
  refine ⟨fun outside => ?_, fun least most => ?_⟩
  · refine taken.trans ?_
    rw [if_neg]
    unfold sourceStation
    split <;> omega
  · rw [sourceStation_of_le rfl (by omega), if_pos ⟨least, most⟩] at taken
    have stays (h : u.alertFrame l b.state.toNat k = u) : Stays := taken.trans (congrArg (Host.Outcome.next ∘ State.finish) h)
    have becomes {x : AlertRecord} (h : u.alertFrame l b.state.toNat k = u.setAlert l x) : Becomes x :=
      taken.trans (congrArg (Host.Outcome.next ∘ State.finish) h)
    have clears (h : b.state = 0) : alertStateOf b.state.toNat = some .clear := by rw [h]; rfl
    have raises (h : b.state = 1) : alertStateOf b.state.toNat = some .raised := by rw [h]; rfl
    refine ⟨fun restocking => stays (alertFrame_of_restocking (s := u) restocking _ _), fun no_clear no_raised => stays ?_,
      fun raised odd => ?_, fun clear odd => ?_, fun free clear silent => becomes ?_, fun free raised low high => becomes ?_⟩
    · refine alertFrame_of_other (s := u) (fun h => no_raised ?_) (fun h => no_clear ?_) k
      · exact BitVec.toNat_inj.mp (alertStateOf_eq_raised.mp h)
      · exact BitVec.toNat_inj.mp (alertStateOf_eq_clear.mp h)
    · by_cases restocking : r.state = .restocking
      · exact stays (alertFrame_of_restocking (s := u) restocking _ _)
      · refine stays ((alertFrame_of_raised (s := u) (raises raised) restocking k).trans (if_neg ?_))
        simp only [alertPaired, Bool.and_eq_true, decide_eq_true_eq]
        omega
    · by_cases restocking : r.state = .restocking
      · exact stays (alertFrame_of_restocking (s := u) restocking _ _)
      · exact stays ((alertFrame_of_clear (s := u) (clears clear) restocking k).trans (if_neg (by simpa [alertPaired] using odd)))
    · refine (alertFrame_of_clear (s := u) (clears clear) free k).trans ((if_pos (by simpa [alertPaired] using silent)).trans ?_)
      exact congrArg (fun since => u.setAlert l ⟨.clear, 0, none, false, since⟩) (lawful.restockSince_of_ne free)
    · have paired : alertPaired .raised k = true := by
        simp only [alertPaired, Bool.and_eq_true, decide_eq_true_eq]
        exact ⟨low, high⟩
      have urgency : max r.urgency k = if r.state = .clear then k else max r.urgency k := by
        split
        next clear =>
          have own := lawful.1
          rw [show (t.line l).alert.state = .clear from clear] at own
          have none_yet : r.urgency = 0 := by simpa [alertPaired] using own
          rw [none_yet, Nat.zero_max]
        next => rfl
      rw [← urgency]
      refine (alertFrame_of_raised (s := u) (raises raised) free k).trans ((if_pos paired).trans ?_)
      exact congrArg (fun since => u.setAlert l ⟨.raised, max r.urgency k, u.freshReminder l, false, since⟩)
        (lawful.restockSince_of_ne free)

end

section
/-! TALLYs and CENSUSes of peers (4.7, 4.8), and the article commands (5.8). -/

namespace Sys2Proof.Machine

variable {s t u : State} {l : Fin 12} {code : Code} {source peer : Nat}

/-! ### TALLY entries -/

theorem takeTallyEntry_of_reaches {e : TallyEntry} (h : s.Reaches e.code l) (known : isPeer s.number source = true) :
    s.takeTallyEntry source e = s.peerTallyTaken l source e := by
  simp only [State.takeTallyEntry, filterCode_of_reaches h, State.lineTally, known, if_true]

/-- An entry of no peer, or of a code that reaches no line, raises counters alone (R75, R128). -/
theorem takeTallyEntry_of_other {e : TallyEntry} (h : isPeer s.number source = false ∨ s.Unreached e.code) :
    s.takeTallyEntry source e = s.codeTested e.code := by
  rw [← filterCode_fst]
  obtain stranger | unreached := h
  · unfold State.takeTallyEntry
    obtain ⟨l, -, h⟩ | h | h := filterCode_cases s e.code <;> simp [h, State.lineTally, stranger]
  · simp only [State.takeTallyEntry, filterCode_of_unreached unreached]

/-! ### CENSUS -/

/-- A code of a CENSUS names a line in SOLO, LEAD or FOLLOW (R79). -/
def State.named (s : State) (code : Code) : Bool :=
  s.hashTable.getLsbD (hashIndex code) && (s.lineOf code).any fun l => (s.line l).reports

theorem censusTurn_eq (s : State) (flag : Bool) (code : Code) :
    censusTurn (s, flag) code = (s.codeTested code, flag || s.named code) := by
  refine Prod.ext ((censusTurn_fst _ _).trans (filterCode_fst s code)) ?_
  unfold censusTurn State.named State.filterCode
  by_cases bit : s.hashTable.getLsbD (hashIndex code) = true
  · cases found : s.lineOf code <;> simp [bit]
  · simp [bit]

/-- The counters of R128 behind a number of codes with a clear bit, and of codes that pass and match no line. -/
def State.codesTested (s : State) (clear unknown : Nat) : State :=
  { s with counters := { s.counters with
    filtered := min 65535 (s.counters.filtered + clear)
    unknownArticle := min 65535 (s.counters.unknownArticle + unknown) } }

theorem codeTested_eq_codesTested (bounded : s.counters.filtered ≤ 65535 ∧ s.counters.unknownArticle ≤ 65535) (code : Code) :
    s.codeTested code = s.codesTested
      (if !s.hashTable.getLsbD (hashIndex code) then 1 else 0)
      (if s.hashTable.getLsbD (hashIndex code) && (s.lineOf code).isNone then 1 else 0) := by
  obtain ⟨filtered, unknown⟩ := bounded
  unfold State.codeTested State.codesTested
  by_cases bit : s.hashTable.getLsbD (hashIndex code) = true
  · cases found : s.lineOf code <;> simp [bit, Nat.min_eq_right filtered, Nat.min_eq_right unknown]
  · simp [bit, Nat.min_eq_right unknown]

theorem codesTested_codesTested (s : State) (a b c d : Nat) :
    (s.codesTested a b).codesTested c d = s.codesTested (a + c) (b + d) := by
  unfold State.codesTested
  have sum (n a c : Nat) : min 65535 (min 65535 (n + a) + c) = min 65535 (n + (a + c)) := by omega
  simp only [sum]

/-- What the head of a list adds to the number of its members that pass. -/
theorem length_filter_cons {α : Type} (p : α → Bool) (x : α) (list : List α) :
    ((x :: list).filter p).length = (if p x then 1 else 0) + (list.filter p).length := by
  rw [List.filter_cons]
  split <;> simp [Nat.add_comm]

theorem codesTested_bounded (s : State) (a b : Nat) :
    (s.codesTested a b).counters.filtered ≤ 65535 ∧ (s.codesTested a b).counters.unknownArticle ≤ 65535 :=
  ⟨Nat.min_le_left _ _, Nat.min_le_left _ _⟩

/-- The codes of a CENSUS raise each counter by the number of its codes, and one named line is enough (R79, R128). -/
theorem censusTurns_eq (bounded : s.counters.filtered ≤ 65535 ∧ s.counters.unknownArticle ≤ 65535) (codes : List Code) (flag : Bool) :
    codes.foldl censusTurn (s, flag) =
      (s.codesTested (codes.filter (fun c => !s.hashTable.getLsbD (hashIndex c))).length
        (codes.filter (fun c => s.hashTable.getLsbD (hashIndex c) && (s.lineOf c).isNone)).length,
      flag || codes.any s.named) := by
  induction codes generalizing s flag with
  | nil =>
    obtain ⟨filtered, unknown⟩ := bounded
    simp [State.codesTested, Nat.min_eq_right filtered, Nat.min_eq_right unknown]
  | cons c rest ih =>
    have tested := codeTested_eq_codesTested bounded c
    rw [List.foldl_cons, censusTurn_eq, tested, ih (codesTested_bounded _ _ _)]
    refine Prod.ext ?_ ?_
    · refine (codesTested_codesTested _ _ _ _ _).trans ?_
      rw [length_filter_cons, length_filter_cons]
      rfl
    · simp only [List.any_cons, ← Bool.or_assoc]
      rfl

theorem named_iff : s.named code = true ↔
    s.hashTable.getLsbD (hashIndex code) = true ∧ ∃ l, s.lineOf code = some l ∧ (s.line l).reports = true := by
  simp [State.named, Option.any_eq_true]

/-! ### Article commands -/

theorem station_of_assembly (h : s.inAssembly = some t) : t.station = s.station := by
  obtain rfl | rfl := inAssembly_cases h <;> rfl

/-- Each code is kept at its first place (R100). -/
theorem firstOccurrences_spec (codes : List Code) :
    (firstOccurrences codes).Nodup ∧ ∀ c, c ∈ firstOccurrences codes ↔ c ∈ codes := by
  suffices general : ∀ seen : List Code, seen.Nodup →
      (codes.foldl (fun seen c => if seen.contains c then seen else seen ++ [c]) seen).Nodup ∧
      ∀ c, c ∈ codes.foldl (fun seen c => if seen.contains c then seen else seen ++ [c]) seen ↔ c ∈ seen ∨ c ∈ codes by
    simpa [firstOccurrences] using general [] List.nodup_nil
  induction codes with
  | nil => exact fun seen distinct => ⟨distinct, by simp⟩
  | cons x rest ih =>
    intro seen distinct
    rw [List.foldl_cons]
    by_cases known : x ∈ seen
    · rw [if_pos (by simpa using known)]
      obtain ⟨nodup, mem⟩ := ih seen distinct
      refine ⟨nodup, fun c => (mem c).trans ?_⟩
      rw [List.mem_cons]
      constructor
      · exact Or.imp_right .inr
      · rintro (h | rfl | h)
        · exact .inl h
        · exact .inl known
        · exact .inr h
    · rw [if_neg (by simpa using known)]
      obtain ⟨nodup, mem⟩ := ih (seen ++ [x]) (by
        rw [List.nodup_append]
        exact ⟨distinct, List.nodup_singleton x, by rintro a ha b hb rfl; exact known (List.mem_singleton.mp hb ▸ ha)⟩)
      refine ⟨nodup, fun c => (mem c).trans ?_⟩
      rw [List.mem_append, List.mem_singleton, List.mem_cons, or_assoc]

/-- A COMMAND row hands its body to the command handler behind the counters (R137). -/
theorem exec_of_command {c : Instr} {source target code option : Byte} {payload : Payload}
    (row : frameOf c = some (commandFrame source target code option payload)) (assembles : s.inAssembly = some t)
    (formed : payload.wf = true) :
    exec c s = .next ((t.heard source).takeCommand ⟨target, code, option, payload⟩).finish :=
  exec_of_frame row assembles formed

theorem takeCommand_of_article {b : CommandBody} {command : CommandCode} {act : State → Fin 12 → State}
    (running : s.station = .running) (named : commandOf b.code = some command)
    (article : command = .ack ∧ act = State.ackLine ∨ command = .restockBegin ∧ act = State.restockBeginLine ∨
      command = .restockEnd ∧ act = State.restockEndLine) :
    s.takeCommand b = s.articleCommand act (payloadCodes b.payload) := by
  rw [State.takeCommand, running, named]
  obtain ⟨rfl, rfl⟩ | ⟨rfl, rfl⟩ | ⟨rfl, rfl⟩ := article <;> rfl

end Sys2Proof.Machine

open Sys2Proof Sys2Proof.Machine

/-- Settles O16: the entries in order, and those that reach nothing. -/
theorem tallyTakenEntryByEntry : Obligations.TallyTakenEntryByEntry := by
  intro s t source entries n assembles length
  refine ⟨exec_of_frame (f := ⟨source, .tally entries⟩) rfl assembles (decide_eq_true length), fun u e h => ?_⟩
  refine takeTallyEntry_of_other ?_
  obtain own | zero | last | clear | noLine := h
  · exact .inl (by rw [← Bool.not_eq_true, isPeer_iff]; omega)
  · exact .inl (by rw [← Bool.not_eq_true, isPeer_iff]; omega)
  · exact .inl (by rw [← Bool.not_eq_true, isPeer_iff]; omega)
  · exact .inr (.inl clear)
  · exact .inr (.inr noLine)

/-- Settles O17: the line behind steps 1 to 4 of R76, behind the lead flag, and the adoption. -/
theorem tallyEntryOfAPeerIsTaken : Obligations.TallyEntryOfAPeerIsTaken := by
  intro u peer e l a a1 a2 leads Flag least most other reaches
  have counted : u.tallyCount l peer (min e.count.toNat 39996) =
      if a1.aggregate ≠ a.aggregate ∧ a2.leads = true then (u.setLine l a2).evaluate l else u.setLine l a2 :=
    tallyCount_eq u l peer _
  have leading : a2.leads = true ↔ leads := leads_iff.trans or_comm
  have line : (u.tallyCount l peer (min e.count.toNat 39996)).line l =
      { a2 with claimSince := ((u.tallyCount l peer (min e.count.toNat 39996)).line l).claimSince } := by
    rw [counted]
    split
    · have sent := (evaluate_sendSide (u.setLine l a2) l).lines l
      rwa [line_setLine_same] at sent
    · rw [line_setLine_same]
  have taken : u.takeTallyEntry peer e =
      let w := (u.tallyCount l peer (min e.count.toNat 39996)).tallyLead l peer (tallyLeadFlag e)
      if (w.line l).lead = peer then w.adopt l (tallyAlertState e) (tallyUrgency e) else w :=
    takeTallyEntry_of_reaches reaches (isPeer_iff.mpr ⟨least, most, other⟩)
  have clock : (u.tallyCount l peer (min e.count.toNat 39996)).clock = u.clock := by
    rw [counted]
    split
    · rw [evaluate_clock]
      rfl
    · rfl
  generalize u.tallyCount l peer (min e.count.toNat 39996) = v at counted line clock taken
  have entered : a1 = { a with map := a1.map, incomplete := a1.incomplete } := tallyEntry_eq _ _ _ _
  have sameLead : a2.lead = a.lead := by
    change a1.lead = a.lead
    rw [entered]
  have sameCode : a2.config.code = e.code := by
    change a1.config.code = e.code
    rw [entered]
    exact reaches.2.2.1
  have lead : (v.line l).lead = a.lead := by
    rw [line]
    exact sameLead
  have code : (v.line l).config.code = e.code := by
    rw [line]
    exact sameCode
  have leadsNow : (v.line l).leads = true ↔ leads := by
    rw [line]
    exact leading
  refine ⟨v, v.tallyLead l peer (tallyLeadFlag e), fun held changed => ?_, fun kept => ?_, fun clear => ?_, fun flag free => ?_,
    fun flag led held => ?_, fun flag led follows => ?_, taken⟩
  · exact counted.trans (if_pos ⟨changed, leading.mpr held⟩)
  · refine counted.trans (if_neg fun ⟨changed, held⟩ => ?_)
    exact kept.elim (fun h => h (leading.mp held)) changed
  · exact if_pos (Bool.eq_false_iff.mpr clear)
  · have raised : tallyLeadFlag e = true := flag
    simp only [State.tallyLead, raised, lead, free, if_true, Bool.true_eq_false, if_false, clock]
  · have raised : tallyLeadFlag e = true := flag
    simp only [State.tallyLead, raised, lead, led, Bool.true_eq_false, if_false, leadsNow.mpr held, if_true, State.requestCount,
      code]
  · have raised : tallyLeadFlag e = true := flag
    have none_led : (v.line l).leads = false := Bool.eq_false_iff.mpr (mt leadsNow.mp follows)
    simp only [State.tallyLead, raised, lead, led, Bool.true_eq_false, if_false, none_led, Bool.false_eq_true]

/-- Settles O18: the counters by the numbers of codes, and the one TALLY. -/
theorem censusOfAPeerAsksForATally : Obligations.CensusOfAPeerAsksForATally := by
  intro s t source codes n Passes u Named assembles least most filtered unknown
  have admitted : lengthAdmitted (.census codes) = true := by simp [lengthAdmitted, least, most]
  have taken : exec (.censusTaken source codes) s = .next ((t.heard source).takeCensus n codes).finish :=
    exec_of_frame (f := ⟨source, .census codes⟩) rfl assembles admitted
  have tested : (t.heard source).filterCensus codes = (u, codes.any t.named) :=
    (filterCensus_eq _ _).trans ((censusTurns_eq (s := t.heard source) ⟨filtered, unknown⟩ codes false).trans
      (Prod.ext rfl (Bool.false_or _)))
  have names : codes.any t.named = true ↔ Named := by simp [List.any_eq_true, named_iff, Named, Passes]
  rw [taken, State.takeCensus, tested]
  dsimp only
  refine ⟨fun one thirty other named => ?_, fun h => ?_⟩
  · have peer : isPeer u.number n = true := isPeer_iff.mpr ⟨one, thirty, other⟩
    rw [names.mpr named, peer]
    obtain ⟨c, -, -, l, -, reports⟩ := named
    have some : (u.linesWhere ArticleLine.reports).isEmpty = false := by
      rw [Bool.eq_false_iff, ne_eq, List.isEmpty_iff]
      exact List.ne_nil_of_mem (List.mem_filter.mpr ⟨mem_allTwelve l, reports⟩)
    simp only [Bool.and_self, if_true, State.requestTally, some, Bool.false_eq_true, if_false]
  · rw [if_neg]
    rw [Bool.and_eq_true, names, isPeer_iff]
    rintro ⟨named, one, thirty, other⟩
    obtain zero | last | own | unnamed := h
    · omega
    · omega
    · exact other own
    · exact unnamed named

/-- Settles O27: the listed lines in order, and each command's act on a line. -/
theorem articleCommandsChangeRecords : Obligations.ArticleCommandsChangeRecords := by
  refine ⟨fun s t source target option payload => ?_, fun u l => ?_⟩
  · intro codes Each assembles running formed
    have heard : (t.heard source).station = .running := (station_of_assembly assembles).trans running
    obtain ⟨nodup, mem⟩ := firstOccurrences_spec (payloadCodes payload)
    refine ⟨?_, ?_, ?_, nodup, fun c => (mem c).trans ?_⟩
    · rw [exec_of_command rfl assembles formed, takeCommand_of_article heard (commandOf_value .ack) (.inl ⟨rfl, rfl⟩)]
      rfl
    · rw [exec_of_command rfl assembles formed,
        takeCommand_of_article heard (commandOf_value .restockBegin) (.inr (.inl ⟨rfl, rfl⟩))]
      rfl
    · rw [exec_of_command rfl assembles formed,
        takeCommand_of_article heard (commandOf_value .restockEnd) (.inr (.inr ⟨rfl, rfl⟩))]
      rfl
    · cases payload <;> simp [payloadCodes]
  · intro a r Withdrawn
    exact ⟨fun raised => if_pos raised, fun other => if_neg other, rfl, fun restocking => if_pos restocking,
      fun other => if_neg other⟩

end

section
/-! The station commands: who obeys them, the readiness check, RECOUNT and ZERO, and the STATUS that answers them (chapter 8). -/

namespace Sys2Proof.Machine

variable {s t u : State} {l i : Fin 12} {b : CommandBody} {command : CommandCode}

/-! ### The command handler -/

theorem anyJoining_iff : s.anyJoining = true ↔ ∃ l, (s.line l).state = .joining := by
  simp [State.anyJoining, State.linesWhere, List.filter_eq_nil_iff, mem_allTwelve]

theorem anyJoining_eq_false_iff : s.anyJoining = false ↔ ∀ l, (s.line l).state ≠ .joining := by
  rw [← Bool.not_eq_true, anyJoining_iff, not_exists]

/-- What a station command does past the readiness check (R142 to R145). -/
def State.runStation (s : State) (b : CommandBody) : CommandCode → State
  | .query => s.runQuery (b.option == 1)
  | .recount => s.runRecount (payloadCell b.payload)
  | .zero => s.runZero (payloadCell b.payload)
  | .restart => s.runRestart
  | .ack | .restockBegin | .restockEnd => s

/-- QUERY, RECOUNT, ZERO and RESTART address one station (R138). -/
def CommandCode.ofStation (command : CommandCode) : Prop :=
  command = .query ∨ command = .recount ∨ command = .zero ∨ command = .restart

/-- A RUNNING station obeys the station commands with its number (R139, R141). -/
theorem takeCommand_of_station (running : s.station = .running) (named : commandOf b.code = some command)
    (station : command.ofStation) :
    s.takeCommand b =
      if b.target.toNat = s.number then
        if s.anyJoining then s.reply command .notReady else s.runStation b command
      else s := by
  rw [State.takeCommand, running, named]
  obtain rfl | rfl | rfl | rfl := station <;> rfl

section
variable {c : Instr} {source target option : Byte} {payload : Payload} (assembles : s.inAssembly = some t) (formed : payload.wf = true)
include assembles formed

/-- The row of a station command that does not address this RUNNING station does no more than count its frame (R139). -/
theorem exec_of_stranger (row : frameOf c = some (commandFrame source target command.value option payload))
    (running : s.station = .running) (station : command.ofStation) (other : target.toNat ≠ t.number) :
    exec c s = .next (t.heard source).finish := by
  have heard : (t.heard source).station = .running := (station_of_assembly assembles).trans running
  rw [exec_of_command row assembles formed, takeCommand_of_station heard (commandOf_value command) station]
  exact congrArg (Host.Outcome.next ∘ State.finish) (if_neg other)

/-- The row of a station command with this RUNNING station's number, while a line is JOINING (R141). -/
theorem exec_of_notReady (row : frameOf c = some (commandFrame source target command.value option payload))
    (running : s.station = .running) (station : command.ofStation) (own : target.toNat = t.number)
    (joining : ∃ l, (t.line l).state = .joining) :
    exec c s = .next ((t.heard source).reply command .notReady).finish := by
  have heard : (t.heard source).station = .running := (station_of_assembly assembles).trans running
  rw [exec_of_command row assembles formed, takeCommand_of_station heard (commandOf_value command) station]
  exact congrArg (Host.Outcome.next ∘ State.finish) ((if_pos own).trans (if_pos (anyJoining_iff.mpr joining)))

/-- The same with no line JOINING: the command runs (R142 to R145). -/
theorem exec_of_ready (row : frameOf c = some (commandFrame source target command.value option payload))
    (running : s.station = .running) (station : command.ofStation) (own : target.toNat = t.number)
    (ready : ∀ l, (t.line l).state ≠ .joining) :
    exec c s = .next ((t.heard source).runStation ⟨target, command.value, option, payload⟩ command).finish := by
  have heard : (t.heard source).station = .running := (station_of_assembly assembles).trans running
  rw [exec_of_command row assembles formed, takeCommand_of_station heard (commandOf_value command) station]
  have free : ¬ (t.heard source).anyJoining = true := Bool.eq_false_iff.mp (anyJoining_eq_false_iff.mpr ready)
  exact congrArg (Host.Outcome.next ∘ State.finish) ((if_pos own).trans (if_neg free))

end

theorem takeCommand_of_unnamed (unnamed : commandOf b.code = none) : s.takeCommand b = s := by
  cases station : s.station <;> simp [State.takeCommand, station, unnamed]

theorem takeCommand_of_unconfigured (unconfigured : s.station = .unconfigured) :
    s.takeCommand b = if commandOf b.code = some .restart ∧ b.target = 0 then s.fullStart else s := by
  rw [State.takeCommand, unconfigured]

theorem reply_eq (s : State) (command : CommandCode) (result : ResultCode) :
    s.reply command result =
      let w : State := { s with lastCommand := some command, lastResult := some result }
      w.request (.status (w.statusBody command result)) := rfl

/-! ### RECOUNT and ZERO -/

theorem usedCell_of_no_cell {number : Option Nat} (h : ∀ n, number = some n → ∀ i : Fin 12, n = i.val → (s.cell i).state = .unused) :
    s.usedCell number = none := by
  cases number with
  | none => rfl
  | some n =>
    unfold State.usedCell
    dsimp only
    split
    next range => exact if_pos (h n rfl ⟨n, range⟩ rfl)
    next => rfl

theorem usedCell_of_used {n : Nat} (number : n = i.val) (used : (s.cell i).state ≠ .unused) : s.usedCell (some n) = some i := by
  subst number
  exact (dif_pos i.isLt).trans (if_neg used)

theorem runRecount_of_none {cell : Option Nat} (gone : s.usedCell cell = none) : s.runRecount cell = s.reply .recount .noSuchCell := by
  rw [State.runRecount, State.recountCommand, gone]

theorem runZero_of_none {cell : Option Nat} (gone : s.usedCell cell = none) : s.runZero cell = s.reply .zero .noSuchCell := by
  rw [State.runZero, State.zeroCommand, gone]

theorem runRecount_of_cell {cell : Option Nat} (named : s.usedCell cell = some i) :
    s.runRecount cell =
      if (s.cell i).state = .rest then (s.recountCell i (windowMean (s.cell i).window)).reply .recount .done
      else s.reply .recount .notAtRest := by
  rw [State.runRecount, State.recountCommand, named]
  dsimp only
  split <;> rfl

theorem runZero_of_cell {cell : Option Nat} (named : s.usedCell cell = some i) :
    s.runZero cell =
      if (s.cell i).state = .rest then (s.zeroCell i (windowMean (s.cell i).window)).reply .zero .done
      else s.reply .zero .notAtRest := by
  rw [State.runZero, State.zeroCommand, named]
  dsimp only
  split <;> rfl

/-- A COUNT asked for behind the taking of a cell's count, where nothing but that cell and the own counts has changed of the cells and
lines (R33). -/
theorem requestCountOfCell_of_counted {c : CellRecord} {count : Nat} {t : State} {part : Option DeparturePart}
    (line : c.line = some l) (cells : t.cells = ((s.setCell i c).setCount i count).cells)
    (lines : t.lines = ((s.setCell i c).setCount i count).lines) :
    t.requestCountOfCell i part =
      if (s.line l).reports then t.request (.count (s.line l).config.code false part) else t := by
  have own : t.lineOfCell i = some l := by
    rw [State.lineOfCell, cell_congr cells, cell_setCount_same, cell_setCell_same]
    exact line
  have same : t.line l = ((s.setCell i c).setCount i count).line l := congrArg (·[l]) lines
  rw [State.requestCountOfCell, own]
  dsimp only
  rw [State.requestCount, same, line_setCount, line_setCell]
  rfl

theorem requestCountOfCell_of_line {c : CellRecord} {n : Nat} {part : Option DeparturePart} (line : c.line = some l) :
    ((s.setCell i c).setCount i n).requestCountOfCell i part =
      if (s.line l).reports then ((s.setCell i c).setCount i n).request (.count (s.line l).config.code false part)
      else (s.setCell i c).setCount i n := requestCountOfCell_of_counted line rfl rfl

theorem zeroCell_of_line (line : (s.cell i).line = some l) (m : Int) :
    s.zeroCell i m =
      let z := (s.setCell i { s.cell i with
        tray := max 0 (min 50000 m), baseline := m, balance := 0, strays := [], countClamped := false
        recountInexact := false }).setCount i 0
      if (s.cell i).count ≠ 0 ∧ (s.line l).reports = true then z.request (.count (s.line l).config.code false none) else z := by
  unfold State.zeroCell
  dsimp only
  rw [requestCountOfCell_of_line (by exact line), clampInt_eq _ _ _ (by decide), Config.trayMax]
  by_cases zero : (s.cell i).count = 0
  · simp only [zero, if_true, ne_eq, not_true_eq_false, false_and, if_false]
  · simp only [zero, if_false, ne_eq, not_false_eq_true, true_and]

/-! ### QUERY and RESTART -/

/-- A STATUS never merges, and is refused by a full queue alone (R134). -/
theorem request_status_nextAge (body : StatusBody) :
    (s.request (.status body)).nextAge = if s.queue.length < 4 then s.nextAge + 1 else s.nextAge := by
  have apart : s.queue.any (fun f => f.isWaiting && sameKind f.content (.status body)) = false := by
    rw [List.any_eq_false]
    intro f _
    cases f.content <;> simp [sameKind]
  have lowest : victim s.queue (.status body) = none :=
    if_neg (not_lt.mpr (highestWaiting_le_iff.mpr fun g _ _ => by cases g.content <;> simp [contentClass]))
  rw [State.request, apart, if_neg Bool.false_ne_true, State.joinQueue, lowest, Config.sendSlots]
  split <;> rfl

theorem joined_reply (s : State) (command : CommandCode) (result : ResultCode) :
    joined s (s.reply command result) = decide (s.queue.length < 4) := by
  rw [joined, reply_eq, request_status_nextAge]
  by_cases room : s.queue.length < 4 <;> simp [room]

theorem runRestart_of_none (free : s.restartPending = none) :
    s.runRestart = { s.reply .restart .done with restartPending := some s.nextAge } := by
  rw [State.runRestart, free]

theorem runRestart_of_pending {age : Nat} (pending : s.restartPending = some age) :
    s.runRestart = s.setLast .restart .done := by
  rw [State.runRestart, pending]

/-! ### The STATUS -/

theorem flagBit_getLsbD {i k : Nat} (flag : Bool) (range : i < 8) : (flagBit flag i).getLsbD k = (flag && decide (k = i)) := by
  unfold flagBit
  cases flag with
  | false => simp
  | true =>
    simp only [if_true, BitVec.getLsbD_shiftLeft, BitVec.getLsbD_one, Bool.true_and]
    grind

/-- A cell state's value has three bits (Table 11-3). -/
theorem value_getLsbD (state : CellState) {k : Nat} (high : 3 ≤ k) : state.value.getLsbD k = false := by
  have small : state.value.toNat < 2 ^ k :=
    lt_of_lt_of_le (b := 2 ^ 3) (by cases state <;> decide) (Nat.pow_le_pow_right (by decide) high)
  exact Nat.testBit_lt_two_pow small

theorem cellSummary_getLsbD (c : CellRecord) (k : Nat) :
    (cellSummary c).getLsbD k = (c.state.value.getLsbD k || (c.saturated && decide (k = 3)) || (c.countClamped && decide (k = 4)) ||
      (c.recountInexact && decide (k = 5)) || (c.firstRest && decide (k = 6))) := by
  simp only [cellSummary, BitVec.getLsbD_or, flagBit_getLsbD, Nat.reduceLT]

theorem cellSummary_state (c : CellRecord) : (cellSummary c).extractLsb' 0 3 = c.state.value.extractLsb' 0 3 := by
  refine BitVec.eq_of_getLsbD_eq fun k low => ?_
  simp only [BitVec.getLsbD_extractLsb', Nat.zero_add, cellSummary_getLsbD]
  have h3 : k ≠ 3 := by omega
  have h4 : k ≠ 4 := by omega
  have h5 : k ≠ 5 := by omega
  have h6 : k ≠ 6 := by omega
  simp [h3, h4, h5, h6]

theorem cellSummary_marks (c : CellRecord) :
    (cellSummary c).getLsbD 3 = c.saturated ∧ (cellSummary c).getLsbD 4 = c.countClamped ∧
    (cellSummary c).getLsbD 5 = c.recountInexact ∧ (cellSummary c).getLsbD 6 = c.firstRest ∧ (cellSummary c).getLsbD 7 = false := by
  simp [cellSummary_getLsbD, value_getLsbD, -BitVec.getLsbD_eq_getElem]

/-- The flags of the lines, bit by bit (Table 11-4). -/
theorem incompleteFlags_eq (lines : Vector ArticleLine 12) :
    incompleteFlags lines = BitVec.ofNat 16 (Nat.ofBits fun l : Fin 12 => lines[l].incomplete) := by
  have turn (n k : Nat) (flag : Bool) : (if flag = true then n + 2 ^ k else n) = n + flag.toNat * 2 ^ k := by cases flag <;> simp
  rw [incompleteFlags]
  simp only [turn, allTwelve, List.foldl_cons, List.foldl_nil, Nat.ofBits_succ, Nat.ofBits_zero, Function.comp_apply]
  congr 1
  simp [Fin.succ]
  ring

theorem incompleteFlags_getLsbD (lines : Vector ArticleLine 12) (l : Fin 12) :
    (incompleteFlags lines).getLsbD l.val = lines[l].incomplete := by
  have range : l.val < 16 := by omega
  rw [incompleteFlags_eq, BitVec.getLsbD_ofNat, Nat.testBit_ofBits_lt _ _ l.isLt, decide_eq_true range, Bool.true_and]

theorem incompleteFlags_reserved (lines : Vector ArticleLine 12) {k : Nat} (high : 12 ≤ k) :
    (incompleteFlags lines).getLsbD k = false := by
  rw [incompleteFlags_eq, BitVec.getLsbD_ofNat, Nat.testBit_ofBits_ge _ _ high, Bool.and_false]

theorem counterFields_toNat (c : Counters) (bounded : c.Bounded) :
    (counterFields c).toList.map BitVec.toNat = [c.framesTaken, c.badFrames, c.overLength, c.filtered, c.unknownArticle, c.collisions,
      c.sendFailures, c.sendDrops] := by
  have field {n : Nat} (range : n ≤ Config.counterMax) : (BitVec.ofNat 16 n).toNat = n := by
    rw [BitVec.toNat_ofNat]
    exact Nat.mod_eq_of_lt (Nat.lt_succ_of_le range)
  obtain ⟨h1, h2, h3, h4, h5, h6, h7, h8⟩ := bounded
  simp [counterFields, field h1, field h2, field h3, field h4, field h5, field h6, field h7, field h8]

/-- The full start ends its event as it stands: it leaves no CENSUS and no restart behind. -/
theorem fullStart_finish (s : State) : s.fullStart.finish = s.fullStart := rfl

end Sys2Proof.Machine

open Sys2Proof Sys2Proof.Machine

/-- Settles O39, by the cell that the command names and its state. -/
theorem recountAndZeroActOnACellInRest : Obligations.RecountAndZeroActOnACellInRest := by
  intro s t source target option payload u Reply assembles running formed own ready
  have recounts : exec (.recount source target option payload) s = .next (u.runRecount (payloadCell payload)).finish :=
    exec_of_ready (command := .recount) assembles formed rfl running (.inr (.inl rfl)) own ready
  have zeroes : exec (.zero source target option payload) s = .next (u.runZero (payloadCell payload)).finish :=
    exec_of_ready (command := .zero) assembles formed rfl running (.inr (.inr (.inl rfl))) own ready
  have replies (v : State) (command : CommandCode) (result : ResultCode) :
      Host.Outcome.next (v.reply command result).finish = Reply v command result := rfl
  rw [recounts, zeroes]
  refine ⟨fun unnamed => ?_, fun n i body number => ?_⟩
  · have gone : u.usedCell (payloadCell payload) = none := by
      refine usedCell_of_no_cell fun n named i number => ?_
      obtain ⟨list, rfl⟩ | ⟨cell, rfl, unused⟩ := unnamed
      · cases named
      · exact unused i (by rw [← number]; exact Option.some.inj named)
    rw [runRecount_of_none gone, runZero_of_none gone]
    exact ⟨replies _ _ _, replies _ _ _⟩
  · intro c
    have named (used : c.state ≠ .unused) : u.usedCell (payloadCell payload) = some i := by
      rw [body]
      exact usedCell_of_used number used
    refine ⟨fun used moving => ?_, fun rests => ?_⟩
    · have moves : (u.cell i).state ≠ .rest := moving
      rw [runRecount_of_cell (named used), runZero_of_cell (named used), if_neg moves, if_neg moves]
      exact ⟨replies _ _ _, replies _ _ _⟩
    · have still : (u.cell i).state = .rest := rests
      have used : c.state ≠ .unused := by simp [rests]
      rw [runRecount_of_cell (named used), runZero_of_cell (named used), if_pos still, if_pos still]
      exact ⟨replies _ _ _, fun l line => (congrArg (fun v : State => Host.Outcome.next (v.reply .zero .done).finish)
        (zeroCell_of_line (s := u) line _)).trans (replies _ _ _)⟩

/-- Settles O40: the replies, and the STATUS field by field. -/
theorem queryAndRestartAreAnswered : Obligations.QueryAndRestartAreAnswered := by
  refine ⟨fun s t source target option payload => ?_, fun s command result => ?_⟩
  · intro u Reply assembles running formed own ready
    have queries : exec (.query source target option payload) s = .next (u.runQuery (option == 1)).finish :=
      exec_of_ready (command := .query) assembles formed rfl running (.inl rfl) own ready
    have restarts : exec (.restart source target option payload) s = .next u.runRestart.finish :=
      exec_of_ready (command := .restart) assembles formed rfl running (.inr (.inr (.inr rfl))) own ready
    rw [queries, restarts]
    refine ⟨fun clears room => ?_, fun kept => ?_, fun free => ?_, fun age pending => ?_⟩
    · rw [State.runQuery, joined_reply, if_pos, reply_eq]
      · rfl
      · rw [Bool.and_eq_true, beq_iff_eq, decide_eq_true_eq]
        exact ⟨clears, room⟩
    · rw [State.runQuery, joined_reply, if_neg, reply_eq]
      rw [Bool.and_eq_true, beq_iff_eq, decide_eq_true_eq]
      rintro ⟨clears, room⟩
      obtain other | full := kept
      · exact other clears
      · exact absurd room full.not_gt
    · exact congrArg (Host.Outcome.next ∘ State.finish) (runRestart_of_none (s := u) free)
    · exact congrArg (Host.Outcome.next ∘ State.finish) (runRestart_of_pending (s := u) pending)
  · intro b running bounded gaps
    have station : b.station = s.station.value := rfl
    refine ⟨by rw [station, running]; rfl, commandOf_value command, rfl, counterFields_toNat _ bounded,
      fun i => ?_, fun l => ⟨incompleteFlags_getLsbD s.lines l, ?_⟩, fun k high => incompleteFlags_reserved s.lines high, rfl⟩
    · have summary : b.cells[i] = cellSummary (s.cell i) := by simp [b, State.statusBody, State.cell]
      rw [summary, cellSummary_state]
      exact ⟨rfl, cellSummary_marks (s.cell i)⟩
    · have byte : b.gaps[l] = BitVec.ofNat 8 (s.line l).serialGaps := by simp [b, State.statusBody, State.line]
      rw [byte, BitVec.toNat_ofNat]
      exact Nat.mod_eq_of_lt (Nat.lt_succ_of_le (gaps l))

/-- Settles O41: the readiness check, and who does not obey. -/
theorem commandsNotReadyOrNotForThisStation : Obligations.CommandsNotReadyOrNotForThisStation := by
  refine ⟨fun s t source target option payload => ?_, fun s t source target code option payload => ?_⟩
  · intro u Reply assembles running formed own joining
    have answers {c : Instr} {command : CommandCode} (station : command.ofStation)
        (row : frameOf c = some (commandFrame source target command.value option payload)) : exec c s = Reply command := by
      rw [exec_of_notReady assembles formed row running station own joining, reply_eq]
    exact ⟨answers (.inl rfl) rfl, answers (.inr (.inl rfl)) rfl, answers (.inr (.inr (.inl rfl))) rfl,
      answers (.inr (.inr (.inr rfl))) rfl⟩
  · intro Ignored assembles formed
    refine ⟨fun unnamed => ?_, fun running other => ?_, fun unconfigured => ?_⟩
    · have taken := exec_of_command (c := .unknownCommandCode source target code option payload) rfl assembles formed
      rwa [takeCommand_of_unnamed unnamed] at taken
    · have strange {c : Instr} {command : CommandCode} (station : command.ofStation)
          (row : frameOf c = some (commandFrame source target command.value option payload)) : Ignored c :=
        exec_of_stranger assembles formed row running station other
      exact ⟨strange (.inl rfl) rfl, strange (.inr (.inl rfl)) rfl, strange (.inr (.inr (.inl rfl))) rfl,
        strange (.inr (.inr (.inr rfl))) rfl⟩
    · have heard : (t.heard source).station = .unconfigured := (station_of_assembly assembles).trans unconfigured
      have obeys {c : Instr} {command : CommandCode}
          (row : frameOf c = some (commandFrame source target command.value option payload)) :
          exec c s = .next (if command = .restart ∧ target = 0 then (t.heard source).fullStart else t.heard source).finish := by
        rw [exec_of_command row assembles formed, takeCommand_of_unconfigured heard]
        simp only [commandOf_value, Option.some.injEq]
      have ignored {c : Instr} {command : CommandCode} (other : ¬ (command = .restart ∧ target = 0))
          (row : frameOf c = some (commandFrame source target command.value option payload)) : Ignored c :=
        (obeys row).trans (congrArg (Host.Outcome.next ∘ State.finish) (if_neg other))
      refine ⟨ignored (command := .ack) (by simp) rfl, ignored (command := .restockBegin) (by simp) rfl,
        ignored (command := .restockEnd) (by simp) rfl, ignored (command := .query) (by simp) rfl,
        ignored (command := .recount) (by simp) rfl, ignored (command := .zero) (by simp) rfl,
        fun other => ignored (command := .restart) (fun h => other h.2) rfl, fun all => ?_⟩
      rw [obeys (command := .restart) rfl, if_pos ⟨rfl, all⟩, fullStart_finish]
      obtain rfl | rfl := inAssembly_cases assembles <;> rfl

end

section
/-! The outcomes of the evaluator as whole states: pick and return (2.3), stray placement and doubt (2.4, 3.6, 3.10), recount (2.6). -/

namespace Sys2Proof.Machine

variable {s : State} {i l : Fin 12} {m n step : Int}

/-! ### The cell's article -/

theorem configOfCell_of_line (line : (s.cell i).line = some l) : s.configOfCell i = (s.line l).config := by
  rw [State.configOfCell, State.lineOfCell, line]

theorem restockingCell_iff (line : (s.cell i).line = some l) :
    s.restockingCell i = true ↔ (s.line l).alert.state = .restocking := by
  rw [State.restockingCell, State.lineOfCell, line]
  exact beq_iff_eq

/-! ### The searches of strays and departures that find nothing -/

/-- R25 removes no stray on a step that rises, or that no stray's weight fits. -/
theorem strayToRemove_eq_none {strays : List StrayRecord}
    (misfits : step < 0 → ∀ y ∈ strays, y.tolerance < |(-step) - y.unitWeight|) : strayToRemove step strays = none := by
  unfold strayToRemove
  split
  next falling =>
    refine List.find?_eq_none.mpr fun y mem fits => ?_
    have apart := misfits falling y (List.mem_reverse.mp mem)
    have within := strayFits_iff.mp fits
    omega
  next => rfl

theorem departureFits_iff {code : Code} {e : Departure} :
    departureFits step code e = true ↔ e.code ≠ code ∧ |step - e.unitWeight| ≤ e.tolerance := by
  simp only [departureFits, magnitude_abs, Bool.and_eq_true, bne_iff_ne, decide_eq_true_eq]

theorem departureToPlace_of_youngest {older younger : List Departure} {d : Departure} (rising : 0 < step)
    (free : s.restockingCell i = false) (room : (s.cell i).strays.length < 4) (split : s.log = older ++ d :: younger)
    (fits : departureFits step (s.configOfCell i).code d = true)
    (youngest : ∀ e ∈ younger, departureFits step (s.configOfCell i).code e = false) :
    s.departureToPlace i step = some d := by
  have none_younger : younger.reverse.find? (departureFits step (s.configOfCell i).code) = none := by simpa using youngest
  rw [State.departureToPlace, if_pos ⟨rising, free, room⟩, youngestEntry, split]
  simp [none_younger, fits]

theorem departureToPlace_eq_none (h : step ≤ 0 ∨ s.restockingCell i = true ∨ 4 ≤ (s.cell i).strays.length ∨
    ∀ e ∈ s.log, departureFits step (s.configOfCell i).code e = false) : s.departureToPlace i step = none := by
  unfold State.departureToPlace
  split
  next may =>
    obtain ⟨rising, free, room⟩ := may
    obtain falls | restocking | full | misfits := h
    · omega
    · rw [restocking] at free
      cases free
    · exact absurd room full.not_gt
    · exact List.find?_eq_none.mpr fun e mem => Bool.eq_false_iff.mp (misfits e (List.mem_reverse.mp mem))
  next => rfl

/-! ### Own counts -/

theorem countAfter_eq (count : Nat) (n : Int) : countAfter count n = (max 0 (min 9999 ((count : Int) + n))).toNat := by
  rw [countAfter, clampInt_eq _ _ _ (by decide)]
  rfl

theorem countClampedBy_eq (count : Nat) (n : Int) :
    countClampedBy count n = decide ((countAfter count n : Int) ≠ (count : Int) + n) := by
  have nonneg : ((max 0 (min 9999 ((count : Int) + n))).toNat : Int) = max 0 (min 9999 ((count : Int) + n)) :=
    Int.toNat_of_nonneg (le_max_left _ _)
  rw [countAfter_eq, nonneg, countClampedBy, clampInt_eq _ _ _ (by decide), Bool.eq_iff_iff, bne_iff_ne, decide_eq_true_eq]
  rfl

end Sys2Proof.Machine

open Sys2Proof Sys2Proof.Machine

/-- Settles O10: the four tests fail in turn, the search of the log by the reason given. -/
theorem doubtAddsTheStepToTheBalance : Obligations.DoubtAddsTheStepToTheBalance := by
  intro s i l m c step config line weighed event no_reversal misfits no_number h
  have own : s.configOfCell i = config := configOfCell_of_line line
  have none_fits : s.departureToPlace i step = none := by
    refine departureToPlace_eq_none (h.imp_right (Or.imp (restockingCell_iff line).mpr (Or.imp_right fun apart e mem => ?_)))
    rw [Bool.eq_false_iff, ne_eq, departureFits_iff, own]
    rintro ⟨other, within⟩
    obtain same | far := apart e mem
    · exact other same
    · omega
  rw [judge_of_event weighed event, testSequence_of_doubt (reversalPasses_eq_false_iff.mpr (by rwa [own]))
    (strayToRemove_eq_none misfits) (by rwa [own]) none_fits, State.doubt, clampInt_eq _ _ _ (by decide), Config.balanceMax]

/-- Settles O9: the search of the log ends at the entry at which it is split. -/
theorem strayPlacementTakesTheYoungestDeparture : Obligations.StrayPlacementTakesTheYoungestDeparture := by
  intro s i l m older younger d c step config Fits line weighed event no_reversal rising no_number free room split fits youngest x
  have own : s.configOfCell i = config := configOfCell_of_line line
  have fit : departureFits step (s.configOfCell i).code d = true := by rw [own]; exact departureFits_iff.mpr fits
  have misfit : ∀ e ∈ younger, departureFits step (s.configOfCell i).code e = false := fun e mem => by
    rw [Bool.eq_false_iff, own]
    exact fun h => youngest e mem (departureFits_iff.mp h)
  have found := departureToPlace_of_youngest rising (Bool.eq_false_iff.mpr (mt (restockingCell_iff line).mp free)) room split fit misfit
  rw [judge_of_event weighed event, testSequence_of_departure (reversalPasses_eq_false_iff.mpr (by rwa [own]))
    (strayToRemove_eq_none fun falls => absurd falls rising.not_gt) (by rwa [own]) found, State.placeStray,
    consumeUnit_of_youngest (s := s.setCell i _) split fit misfit]
  rfl

/-- Settles O8: the outcome own count, as pick and as return. -/
theorem pickAndReturnCountUnits : Obligations.PickAndReturnCountUnits := by
  intro s i l m n c step config line weighed event no_reversal misfits number count base Asked
  have own : s.configOfCell i = config := configOfCell_of_line line
  have counted : s.countUnits i m n = base := by
    unfold State.countUnits
    dsimp only
    rw [countClampedBy_eq, countAfter_eq]
  have judged : s.judge i m = if n < 0 then s.pick i m n else s.takeReturn i m n := by
    rw [judge_of_event weighed event, testSequence_of_unitNumber (reversalPasses_eq_false_iff.mpr (by rwa [own]))
      (strayToRemove_eq_none misfits) (by rwa [own])]
  have asked {t : State} {part : Option DeparturePart} (cells : t.cells = base.cells) (lines : t.lines = base.lines) :
      t.requestCountOfCell i part = Asked t part := requestCountOfCell_of_counted (by exact line) cells lines
  refine ⟨fun falls => ?_, fun rises => ?_⟩
  · intro units serial entry
    have departed : s.ownDeparture i (magnitude n).toNat = entry := by
      rw [State.ownDeparture, own, magnitude_abs, Int.abs_eq_natAbs, Int.toNat_natCast]
    rw [judged, if_pos falls, State.pick, counted, departed]
    exact asked rfl rfl
  · have taken : (base.cell i).count = count := by rw [cell_setCount_same]
    rw [judged, if_neg rises.not_gt, State.takeReturn, counted]
    rw [taken, asked rfl rfl]

/-- Settles O11: the recount as a whole state, and the first rest that is judged as one. -/
theorem recountMeasuresTheLane : Obligations.RecountMeasuresTheLane := by
  intro s i l m k c config net line positive rounded count base t
  have own : s.configOfCell i = config := configOfCell_of_line line
  have quotient : roundDiv net config.unitWeight = k := (roundDiv_eq_iff (by exact_mod_cast positive)).mpr rounded
  have nonneg : ((max 0 (min 9999 k)).toNat : Int) = max 0 (min 9999 k) := Int.toNat_of_nonneg (le_max_left _ _)
  have clamped : clampInt 0 Config.countMax k = (count : Int) := (clampInt_eq _ _ _ (by decide)).trans nonneg.symm
  have mark : (clampInt 0 Config.countMax k != k) = decide ((count : Int) ≠ k) := by
    rw [clamped, Bool.eq_iff_iff, bne_iff_ne, decide_eq_true_eq]
  have recounted : s.recountCell i m = t := by
    unfold State.recountCell recountNumber
    dsimp only
    rw [own, quotient, mark, clamped, Int.toNat_natCast, magnitude_abs]
    change (if count = c.count then base else base.requestCountOfCell i none) = t
    have asked : base.requestCountOfCell i none =
        if (s.line l).reports then base.request (.count config.code false none) else base :=
      requestCountOfCell_of_counted (by exact line) rfl rfl
    rw [asked]
    by_cases same : count = c.count
    · rw [if_pos same]
      exact (if_neg fun h => h.1 same).symm
    · rw [if_neg same]
      exact if_congr (by simp [same]) rfl rfl
  refine ⟨recounted, fun first => ?_⟩
  rw [State.judge, if_pos first, recounted]
  rfl

end

section
/-! The weighing front end as whole states: the window of a weighed cell, and every conversion by the cell's state (chapter 1). -/

namespace Sys2Proof.Machine

variable {s : State} {i : Fin 12} {m : Int} {code : Conversion}

/-! ### The window -/

theorem appendSample_of_room {window : List Sample} (x : Sample) (room : window.length < 8) : appendSample window x = window ++ [x] := by
  have none_leave : (window ++ [x]).length - 8 = 0 := by
    rw [List.length_append, List.length_singleton]
    omega
  exact (congrArg (fun n => (window ++ [x]).drop n) none_leave).trans List.drop_zero

theorem appendSample_of_full {younger : List Sample} (oldest x : Sample) (full : (oldest :: younger).length = 8) :
    appendSample (oldest :: younger) x = younger ++ [x] := by
  have one_leaves : (oldest :: younger ++ [x]).length - 8 = 1 := by
    rw [List.length_append, List.length_singleton, full]
  exact congrArg (fun n => (oldest :: younger ++ [x]).drop n) one_leaves

theorem windowMean_rounded {window : List Sample} (some : window ≠ []) :
    Rounded (window.map Sample.weight).sum window.length (windowMean window) :=
  (roundDiv_rounded _ _ (by exact_mod_cast List.length_pos_iff.mpr some)).1

theorem settled_iff {band : Nat} {window : List Sample} : settled band window = true ↔
    window.length = 8 ∧ (∀ y ∈ window, y.saturated = false) ∧
      ∀ y ∈ window, windowMean window - band ≤ y.weight ∧ y.weight ≤ windowMean window + band := by
  simp [settled, Config.windowSize, and_assoc]

/-! ### An evaluation instant keeps the state of its cell -/

theorem testJoiningOfCell_cells (s : State) (i : Fin 12) : (s.testJoiningOfCell i).cells = s.cells := by
  unfold State.testJoiningOfCell
  split
  · unfold State.testJoining
    split
    · rw [leaveJoining_eq, request_cells]
      rfl
    · rfl
  · rfl

theorem testSequence_cell_state (step : Int) : ((s.testSequence i m step).cell i).state = (s.cell i).state := by
  by_cases reverses : reversalPasses (s.cell i) step (s.configOfCell i).tolerance = true
  · rw [testSequence_of_reversal reverses, State.reverseBalance, cell_setCell_same]
  obtain ⟨x, -, removal⟩ | ⟨-, ⟨n, -, counted⟩ | ⟨-, ⟨e, -, placement⟩ | ⟨-, doubt⟩⟩⟩ :=
    testSequence_cases m (Bool.eq_false_iff.mpr reverses)
  · rw [removal, State.removeStray, request_cell, cell_setCell_same]
  · have kept : ((s.countUnits i m n).cell i).state = (s.cell i).state := by
      rw [State.countUnits, cell_setCount_same, cell_setCell_same]
    rw [counted]
    split
    · rw [pick_cell, kept]
    · rw [takeReturn_cell, kept]
  · rw [placement, State.placeStray, request_cell, cell_congr (consumeUnit_cells _ _), cell_setCell_same]
  · rw [doubt, State.doubt, cell_setCell_same]

theorem judge_cell_state : ((s.judge i m).cell i).state = (s.cell i).state := by
  unfold State.judge
  dsimp only
  split
  · rw [cell_congr (testJoiningOfCell_cells _ _), State.clearFirstRest, cell_setCell_same]
    exact recountCell_cell_state
  · split
    · rw [State.rebase, cell_setCell_same]
    · exact testSequence_cell_state _

/-! ### The test of the window, by the state of the cell -/

theorem enterRest_setCell (c : CellRecord) :
    (s.setCell i c).enterRest i = (s.setCell i { c with state := .rest }).judge i (windowMean c.window) := by
  simp [State.enterRest]

theorem enterMotion_setCell (c : CellRecord) :
    (s.setCell i c).enterMotion i = s.setCell i { c with state := .motion, motionCount := 0 } := by
  simp [State.enterMotion]

section
variable (c : CellRecord)

theorem testWindow_of_warming (state : c.state = .warming) (more : 1 < c.warmUp) :
    (s.setCell i c).testWindow i = s.setCell i { c with warmUp := c.warmUp - 1 } := by
  simp [State.testWindow, state, more]

theorem testWindow_of_warmed (state : c.state = .warming) (last : c.warmUp ≤ 1) :
    (s.setCell i c).testWindow i =
      if settled s.settleBand c.window then
        (s.setCell i { c with state := .rest, warmUp := 0 }).judge i (windowMean c.window)
      else s.setCell i { c with state := .motion, warmUp := 0, motionCount := 0 } := by
  simp [State.testWindow, state, last.not_gt, enterRest_setCell, enterMotion_setCell]

theorem testWindow_of_resting (state : c.state = .rest) :
    (s.setCell i c).testWindow i =
      if settled s.settleBand c.window then
        if s.eventThreshold ≤ |windowMean c.window - c.baseline| then (s.setCell i c).judge i (windowMean c.window)
        else s.setCell i c
      else s.setCell i { c with state := .motion, motionCount := 0 } := by
  simp [State.testWindow, state, enterMotion_setCell, magnitude_abs]

theorem testWindow_of_moving (state : c.state = .motion) :
    (s.setCell i c).testWindow i =
      if settled s.settleBand c.window then (s.setCell i { c with state := .rest }).judge i (windowMean c.window)
      else if c.motionCount + 1 = 10 * s.motionLimit then
        s.setCell i { c with motionCount := c.motionCount + 1, state := .unsteady }
      else s.setCell i { c with motionCount := c.motionCount + 1 } := by
  simp [State.testWindow, state, enterRest_setCell]

theorem testWindow_of_unsteady (state : c.state = .unsteady) :
    (s.setCell i c).testWindow i =
      if settled s.settleBand c.window then (s.setCell i { c with state := .rest }).judge i (windowMean c.window)
      else s.setCell i c := by
  simp [State.testWindow, state, enterRest_setCell]

end

/-! ### Conversions -/

/-- In RUNNING the rotation's cell is converted and the rotation moves on (R1). -/
theorem exec_conversion {t : State} (running : s.station = .running) (converts : s.convertCell s.rotation code = t) :
    exec (.conversion code) s = .next (State.finish { t with rotation := s.rotation + 1 }) := by
  subst converts
  exact congrArg (Host.Outcome.next ∘ State.finish) (if_pos running)

/-- A special row answers what CONVERSION answers where it takes the cell between its states (log entry 4). -/
theorem convertInto_eq {t : State} {was becomes : CellState → Bool} (running : s.station = .running)
    (converts : s.convertCell s.rotation code = t) (before : was (s.cell s.rotation).state = true)
    (after : becomes (t.cell s.rotation).state = true) :
    s.convertInto code was becomes = State.finish { t with rotation := s.rotation + 1 } := by
  subst converts
  have converted : s.convert code = { s.convertCell s.rotation code with rotation := s.rotation + 1 } := if_pos running
  rw [State.convertInto, converted]
  exact if_pos ⟨running, before, after⟩

theorem convertInto_of_other {was becomes : CellState → Bool} (other : s.station ≠ .running) :
    s.convertInto code was becomes = s := if_neg fun h => other h.1

/-- Below the fourth out-of-range code in a row a weighed cell's window takes the weight and is tested (R9 to R13). -/
theorem convertCell_of_few (weighed : (s.cell i).weighed) (few : runAfter (s.cell i).faultRun code < 4) :
    s.convertCell i code = (s.setCell i ((s.cell i).append code)).testWindow i := by
  rw [convertCell_of_weighed weighed, if_neg few.not_ge]

theorem convertCell_of_unused (unused : (s.cell i).state = .unused) : s.convertCell i code = s := by
  simp only [State.convertCell, unused]

theorem convertCell_of_fault (fault : (s.cell i).state = .fault) :
    s.convertCell i code = s.setCell i ((s.cell i).recover code) := by
  simp only [State.convertCell, fault]

theorem recover_of_warm {c : CellRecord} (inside : inRange code = true) (fourth : 4 ≤ c.faultRun + 1) :
    c.recover code = { c with
      state := .warming, window := [], saturated := false, faultRun := 0, motionCount := 0, warmUp := 8 } := by
  rw [CellRecord.recover, if_pos inside]
  exact if_pos fourth

theorem recover_of_still {c : CellRecord} (still : c.faultRun + 1 < 4 ∨ inRange code = false) :
    c.recover code = { c with faultRun := if inRange code then c.faultRun + 1 else 0 } := by
  unfold CellRecord.recover
  by_cases inside : inRange code = true
  · rw [if_pos inside, if_pos inside]
    exact if_neg (still.resolve_right (by simp [inside])).not_ge
  · rw [if_neg inside, if_neg inside]

end Sys2Proof.Machine

open Sys2Proof Sys2Proof.Machine

/-- Settles O2, by the state of the cell. -/
theorem settledConversionIsHandedToTheEvaluator : Obligations.SettledConversionIsHandedToTheEvaluator := by
  intro s code running i c w run a Judged few rests
  refine ⟨fun state => ?_, fun state last => ?_, fun state event => ?_⟩
  · refine exec_conversion running ?_
    obtain moving | unsteady := state
    · rw [convertCell_of_few (.inr (.inl moving)) few]
      exact (testWindow_of_moving a moving).trans (if_pos rests)
    · rw [convertCell_of_few (.inr (.inr (.inr unsteady))) few]
      exact (testWindow_of_unsteady a unsteady).trans (if_pos rests)
  · have judged : s.convertCell i code = (s.setCell i { a with state := .rest, warmUp := 0 }).judge i (windowMean w) := by
      rw [convertCell_of_few (.inl state) few]
      exact (testWindow_of_warmed a state last).trans (if_pos rests)
    refine ⟨exec_conversion running judged, congrArg Host.Outcome.next (convertInto_eq running judged (beq_iff_eq.mpr state) ?_)⟩
    rw [judge_cell_state, cell_setCell_same]
    rfl
  · refine exec_conversion running ?_
    rw [convertCell_of_few (.inr (.inr (.inl state))) few]
    exact (testWindow_of_resting a state).trans ((if_pos rests).trans (if_pos event))

/-- Settles O3: the bridge fault and the recovery, by CONVERSION and by their own rows. -/
theorem bridgeFaultEntryAndRecovery : Obligations.BridgeFaultEntryAndRecovery := by
  intro s code running i c
  refine ⟨fun weighed outside fourth => ?_, fun fault inside fourth => ?_⟩
  · intro f t
    have faulted : s.convertCell i code = ((s.setCell i f).request (.fault .cellFault (some i))).testJoiningOfCell i := by
      rw [convertCell_of_weighed weighed, runAfter, outside]
      exact if_pos fourth
    refine ⟨congrArg Host.Outcome.next (convertInto_eq running faulted ?_ ?_), exec_conversion running faulted⟩
    · obtain h | h | h | h := weighed <;> rw [show (s.cell s.rotation).state = _ from h] <;> rfl
    · rw [cell_congr (testJoiningOfCell_cells _ _), request_cell, cell_setCell_same]
      rfl
  · intro r t
    have warmed : s.convertCell i code = s.setCell i r := by
      rw [convertCell_of_fault fault, recover_of_warm inside fourth]
    refine ⟨congrArg Host.Outcome.next (convertInto_eq running warmed (beq_iff_eq.mpr fault) ?_), exec_conversion running warmed⟩
    rw [cell_setCell_same]
    rfl

/-- Settles O12, by the state of the cell, and the window's own laws. -/
theorem conversionWithoutInstant : Obligations.ConversionWithoutInstant := by
  refine ⟨fun s code running => ?_, fun s code running => ?_, fun s code other => ?_, fun band window x => ?_⟩
  · intro i c w run a After
    have after {r : CellRecord} (h : s.convertCell i code = s.setCell i r) : After r := exec_conversion running h
    have tested {r : CellRecord} (weighed : c.weighed) (few : run < 4) (h : (s.setCell i a).testWindow i = s.setCell i r) :
        After r := after ((convertCell_of_few weighed few).trans h)
    refine ⟨fun unused => ?_, fun fault still => ?_, fun few => ⟨fun state more => ?_, fun state last moves => ?_,
      fun state moves => ?_, fun state rests drift => ?_, fun state moves short => ?_, fun state moves => ?_⟩⟩
    · exact after ((convertCell_of_unused unused).trans (setCell_cell s i).symm)
    · exact after ((convertCell_of_fault fault).trans (by rw [recover_of_still still]))
    · exact tested (.inl state) few (testWindow_of_warming a state more)
    · exact tested (.inl state) few ((testWindow_of_warmed a state last).trans (if_neg (by exact Bool.eq_false_iff.mp moves)))
    · exact tested (.inr (.inr (.inl state))) few
        ((testWindow_of_resting a state).trans (if_neg (by exact Bool.eq_false_iff.mp moves)))
    · exact tested (.inr (.inr (.inl state))) few
        ((testWindow_of_resting a state).trans ((if_pos rests).trans (if_neg drift.not_ge)))
    · exact tested (.inr (.inl state)) few
        ((testWindow_of_moving a state).trans ((if_neg (by exact Bool.eq_false_iff.mp moves)).trans (if_neg short)))
    · exact tested (.inr (.inr (.inr state))) few
        ((testWindow_of_unsteady a state).trans (if_neg (by exact Bool.eq_false_iff.mp moves)))
  · intro i c w run a After few moves
    refine ⟨fun state last => ?_, fun state limit => ?_⟩
    · have moved : s.convertCell i code = s.setCell i { a with warmUp := 0, state := .motion, motionCount := 0 } := by
        rw [convertCell_of_few (.inl state) few]
        exact (testWindow_of_warmed a state last).trans (if_neg (by exact Bool.eq_false_iff.mp moves))
      refine congrArg Host.Outcome.next (convertInto_eq running moved (beq_iff_eq.mpr state) ?_)
      rw [cell_setCell_same]
      rfl
    · have limited : s.convertCell i code = s.setCell i { a with motionCount := c.motionCount + 1, state := .unsteady } := by
        rw [convertCell_of_few (.inr (.inl state)) few]
        exact (testWindow_of_moving a state).trans ((if_neg (by exact Bool.eq_false_iff.mp moves)).trans (if_pos limit))
      refine ⟨congrArg Host.Outcome.next (convertInto_eq running limited (beq_iff_eq.mpr state) ?_), exec_conversion running limited⟩
      rw [cell_setCell_same]
      rfl
  · exact ⟨congrArg (Host.Outcome.next ∘ State.finish) (if_neg other), congrArg Host.Outcome.next (convertInto_of_other other),
      congrArg Host.Outcome.next (convertInto_of_other other), congrArg Host.Outcome.next (convertInto_of_other other),
      congrArg Host.Outcome.next (convertInto_of_other other)⟩
  · intro m
    refine ⟨appendSample_of_room x, fun oldest younger split full => ?_, windowMean_rounded, settled_iff⟩
    subst split
    exact appendSample_of_full oldest x full

end

section
/-! Frames read back from the line: the fields, the bodies and the check of the characters that a frame is sent as (11.1, 11.2). -/

namespace Sys2Proof.Machine

/-! ### Fields -/

theorem word16_bytes (v : BitVec 16) : word16 (v.extractLsb' 8 8) (v.extractLsb' 0 8) = v := by
  refine BitVec.eq_of_getLsbD_eq fun k range => ?_
  simp only [word16, BitVec.getLsbD_append, BitVec.getLsbD_extractLsb']
  split
  next low => simp [low]
  next high =>
    have within : k - 8 < 8 := by omega
    have place : 8 + (k - 8) = k := by omega
    simp [within, place]

theorem word24_bytes (v : BitVec 24) : word24 (v.extractLsb' 16 8) (v.extractLsb' 8 8) (v.extractLsb' 0 8) = v := by
  refine BitVec.eq_of_getLsbD_eq fun k range => ?_
  simp only [word24, BitVec.getLsbD_append, BitVec.getLsbD_extractLsb']
  split
  next low => simp [low]
  next high =>
    split
    next middle =>
      have place : 8 + (k - 8) = k := by omega
      simp [middle, place]
    next top =>
      have within : k - 8 - 8 < 8 := by omega
      have place : 16 + (k - 8 - 8) = k := by omega
      simp [within, place]

theorem readCodes_codeBytes (codes : List Code) : readCodes (codeBytes codes) = some codes := by
  induction codes with
  | nil => rfl
  | cons c rest ih =>
    have bytes : codeBytes (c :: rest) = c.extractLsb' 16 8 :: c.extractLsb' 8 8 :: c.extractLsb' 0 8 :: codeBytes rest := rfl
    rw [bytes, readCodes, ih, word24_bytes, Option.map_some]

theorem readEntries_entryBytes (entries : List TallyEntry) : readEntries (entries.flatMap entryBytes) = some entries := by
  induction entries with
  | nil => rfl
  | cons e rest ih =>
    have bytes : (e :: rest).flatMap entryBytes =
        e.code.extractLsb' 16 8 :: e.code.extractLsb' 8 8 :: e.code.extractLsb' 0 8 ::
          e.count.extractLsb' 8 8 :: e.count.extractLsb' 0 8 :: e.flags :: rest.flatMap entryBytes := rfl
    rw [bytes, readEntries, ih, word24_bytes, word16_bytes, Option.map_some]

theorem readWords_bytes (words : List (BitVec 16)) : readWords (words.flatMap bytes16) = some words := by
  induction words with
  | nil => rfl
  | cons v rest ih =>
    have bytes : (v :: rest).flatMap bytes16 = v.extractLsb' 8 8 :: v.extractLsb' 0 8 :: rest.flatMap bytes16 := rfl
    rw [bytes, readWords, ih, word16_bytes, Option.map_some]

theorem vectorOf_toList {α : Type} {n : Nat} (v : Vector α n) : vectorOf n v.toList = some v := by
  have size : v.toList.toArray.size = n := by simp
  rw [vectorOf, dif_pos size]
  exact congrArg some (Vector.toArray_inj.mp v.toArray_toList)

/-! ### Lengths -/

theorem bytes24_length (v : BitVec 24) : (bytes24 v).length = 3 := rfl
theorem bytes16_length (v : BitVec 16) : (bytes16 v).length = 2 := rfl
theorem entryBytes_length (e : TallyEntry) : (entryBytes e).length = 6 := rfl
theorem characterBits_length (c : Byte) : (characterBits c).length = 10 := rfl

theorem flatMap_length_of_const {α β : Type} {f : α → List β} {k : Nat} (list : List α) (each : ∀ x, (f x).length = k) :
    (list.flatMap f).length = k * list.length := by
  simp [List.length_flatMap, each, Nat.mul_comm]

theorem bodyBytes_length (b : Body) : (bodyBytes b).length = bodyLength b := by
  cases b with
  | command b =>
    cases payload : b.payload with
    | codes l =>
      have codes := flatMap_length_of_const l bytes24_length
      simp only [bodyBytes, bodyLength, payload, codeBytes, List.length_append, codes, List.length_cons, List.length_nil]
    | cell n => simp [bodyBytes, bodyLength, payload]
  | count b => cases part : b.part <;> simp [bodyBytes, bodyLength, part, partBytes, bytes16, bytes24]
  | tally entries => exact flatMap_length_of_const entries entryBytes_length
  | census codes => exact flatMap_length_of_const codes bytes24_length
  | status b =>
    have words := flatMap_length_of_const b.counters.toList bytes16_length
    simp [bodyBytes, bodyLength, words, bytes16]
  | alert _ | stray _ | fault _ => rfl

theorem frameBits_length (f : Frame) : (frameBits f).length = 70 + 10 * bodyLength f.body := by
  have bits := flatMap_length_of_const (frameCharacters f) characterBits_length
  rw [frameBits, bits]
  simp [frameCharacters, frameAfterSync, coveredBytes, bodyBytes_length, bytes16]
  omega

/-! ### Bodies -/

/-- A stretch of a row of bytes, behind those before it. -/
theorem take_drop_of_split {α : Type} {row before stretch after : List α} {n k : Nat} (split : row = before ++ stretch ++ after)
    (start : before.length = n) (length : stretch.length = k) : (row.drop n).take k = stretch := by
  subst split start length
  rw [List.append_assoc, List.drop_left, List.take_left]

theorem readStatus_bodyBytes (b : StatusBody) : readStatus (bodyBytes (.status b)) = some (.status b) := by
  have words : (b.counters.toList.flatMap bytes16).length = 16 := by
    rw [flatMap_length_of_const _ bytes16_length, Vector.length_toList]
  have cells : b.cells.toList.length = 12 := b.cells.length_toList
  have gaps : b.gaps.toList.length = 12 := b.gaps.length_toList
  generalize row : b.counters.toList.flatMap bytes16 ++ b.cells.toList ++ bytes16 b.incomplete ++ b.gaps.toList ++ [b.clamped] = rest
  have split : bodyBytes (.status b) = b.station :: b.command :: b.result :: rest := by
    rw [← row]
    simp [bodyBytes]
  have counterStretch : rest.take 16 = b.counters.toList.flatMap bytes16 :=
    take_drop_of_split (before := []) (after := b.cells.toList ++ bytes16 b.incomplete ++ b.gaps.toList ++ [b.clamped]) (n := 0)
      (by simp [← row]) rfl words
  have cellStretch : (rest.drop 16).take 12 = b.cells.toList :=
    take_drop_of_split (before := b.counters.toList.flatMap bytes16)
      (after := bytes16 b.incomplete ++ b.gaps.toList ++ [b.clamped]) (by simp [← row]) words cells
  have gapStretch : (rest.drop 30).take 12 = b.gaps.toList :=
    take_drop_of_split (before := b.counters.toList.flatMap bytes16 ++ b.cells.toList ++ bytes16 b.incomplete)
      (after := [b.clamped]) (by simp [← row]) (by simp only [List.length_append, words, cells, bytes16_length]) gaps
  have flagStretch : (rest.drop 28).take 2 = bytes16 b.incomplete :=
    take_drop_of_split (before := b.counters.toList.flatMap bytes16 ++ b.cells.toList)
      (after := b.gaps.toList ++ [b.clamped]) (by simp [← row]) (by simp only [List.length_append, words, cells]) (bytes16_length _)
  have last : rest.drop 42 = [b.clamped] := by
    rw [← row]
    exact List.drop_left' (by simp only [List.length_append, words, cells, gaps, bytes16_length])
  rw [split, readStatus, counterStretch, cellStretch, gapStretch, flagStretch, last, readWords_bytes, Option.bind_some,
    vectorOf_toList, vectorOf_toList, vectorOf_toList, bytes16]
  simp [word16_bytes]

theorem readBody_bodyBytes {b : Body} (admitted : lengthAdmitted b = true) : readBody (bodyKind b) (bodyBytes b) = some b := by
  cases b with
  | status b => exact readStatus_bodyBytes b
  | alert b => simp [readBody, bodyKind, bodyBytes, bytes24, bytes16, word24_bytes, word16_bytes]
  | command b =>
    obtain ⟨target, code, option, payload⟩ := b
    cases payload with
    | cell n => rfl
    | codes l =>
      simp only [lengthAdmitted, decide_eq_true_eq] at admitted
      have read := readCodes_codeBytes l
      cases l with
      | nil => rfl
      | cons c rest =>
        have bytes : bodyBytes (.command ⟨target, code, option, .codes (c :: rest)⟩) =
            target :: code :: option :: codeBytes (c :: rest) := rfl
        have first : codeBytes (c :: rest) = c.extractLsb' 16 8 :: c.extractLsb' 8 8 :: c.extractLsb' 0 8 :: codeBytes rest := rfl
        rw [first] at read
        rw [bytes, first]
        simp only [readBody, bodyKind, read, Option.bind_some, if_pos admitted]
        rfl
  | count b =>
    obtain ⟨code, count, serial, flags, part⟩ := b
    cases part <;> simp [readBody, bodyKind, bodyBytes, partBytes, bytes24, bytes16, word24_bytes, word16_bytes]
  | stray b => simp [readBody, bodyKind, bodyBytes, bytes24, word24_bytes]
  | tally entries =>
    simp only [lengthAdmitted, decide_eq_true_eq] at admitted
    simp [readBody, bodyKind, bodyBytes, readEntries_entryBytes, admitted]
  | census codes =>
    simp only [lengthAdmitted, Bool.and_eq_true, decide_eq_true_eq] at admitted
    simp [readBody, bodyKind, bodyBytes, readCodes_codeBytes, admitted]
  | fault b => rfl

end Sys2Proof.Machine

open Sys2Proof Sys2Proof.Machine

/-- Settles O34: the characters behind the sync characters are cut where the frame was joined. -/
theorem frameRoundTripThroughTheLine : Obligations.FrameRoundTripThroughTheLine := by
  intro f admitted
  have short := bodyLength_le_of_admitted admitted
  refine ⟨?_, bodyBytes_length f.body, short, frameBits_length f⟩
  have header : (BitVec.ofNat 8 (bodyLength f.body)).toNat = bodyLength f.body := by
    rw [BitVec.toNat_ofNat]
    omega
  have covered : [bodyKind f.body, BitVec.ofNat 8 (bodyLength f.body), f.source] ++ bodyBytes f.body = coveredBytes f := rfl
  have row : frameAfterSync f = bodyKind f.body :: BitVec.ofNat 8 (bodyLength f.body) :: f.source ::
      (bodyBytes f.body ++ bytes16 (crc16 (coveredBytes f))) := rfl
  have body : (bodyBytes f.body ++ bytes16 (crc16 (coveredBytes f))).take (bodyLength f.body) = bodyBytes f.body :=
    List.take_left' (bodyBytes_length f.body)
  have check : (bodyBytes f.body ++ bytes16 (crc16 (coveredBytes f))).drop (bodyLength f.body) = bytes16 (crc16 (coveredBytes f)) :=
    List.drop_left' (bodyBytes_length f.body)
  rw [row, goodFrame, header, body, check, covered, readBody_bodyBytes admitted]
  exact if_pos ⟨by rw [List.length_append, bodyBytes_length]; rfl, rfl⟩

end
